-- ==== Sys2Proof/Word.lean ====
section
/-!
DEFINITION. The fixed widths of the core's values (spec 00_scope.md R10, 10_state.md R20). Every value of the core is
unsigned, so each is a bit vector read with `toNat`.
-/

namespace Sys2Proof

/-- `u8` of R10: a byte of the host port, a table sample, an 8-bit register. -/
abbrev Byte := BitVec 8

/-- `u16` of R10: `TBDIV` and `TICKCNT`. -/
abbrev Half := BitVec 16

/-- `u32` of R10: phase accumulators, increments, rates and frequencies. -/
abbrev Word := BitVec 32

/-- A host address, `h_addr[5:0]` of 30_encoding.md R90. -/
abbrev Addr := BitVec 6

/-- One host transaction as the 15-bit word of 30_encoding.md R93. -/
abbrev TxWord := BitVec 15

/-- A value of the engine sequencer register `ENG`, 10_state.md R24. -/
abbrev EngCode := BitVec 3

end Sys2Proof
end

