-- ==== Sys2Proof/Config.lean ====
section
/-!
DEFINITION. The configuration of the core: the parameters the spec fixes (00_scope.md R6, R7) as named constants, and the two
parameters it leaves as arguments of a model (R8), `WAVETABLE` and `DIVISORS`, with their default values.
-/

namespace Sys2Proof

/-- `SHIFT` of R6: the right shift that turns an accumulator into a table index. -/
abbrev shift : Nat := 24

/-- `TABLE_SIZE` of R6: entries of the waveform table. -/
abbrev tableSize : Nat := 256

/-- `TB_MODULUS` of R7: counts per overflow. -/
abbrev tbModulus : Nat := 256

/-- The largest member `DIVISORS` may have (R8). -/
abbrev maxDivisor : Nat := 1024

/-- The arguments of the model (R8): `WAVETABLE`, and `DIVISORS` as its first member and the rest, so that it is not empty. -/
structure Config where
  wavetable : List Byte
  firstDivisor : Nat
  moreDivisors : List Nat
deriving DecidableEq, Repr

/-- `DIVISORS` of R8. -/
def Config.divisors (c : Config) : List Nat := c.firstDivisor :: c.moreDivisors

/-- Each member is larger than the one before it. -/
def strictlyRising : List Nat → Bool
  | [] => true
  | [_] => true
  | a :: b :: rest => decide (a < b) && strictlyRising (b :: rest)

/-- What R8 and 42_wavetable.md R194 require: exactly 256 samples; divisors positive, strictly rising, at most 1024. -/
def Config.legal (c : Config) : Bool :=
  decide (c.wavetable.length = tableSize) && decide (0 < c.firstDivisor) && strictlyRising c.divisors
    && c.divisors.all (fun d => decide (d ≤ maxDivisor))

/-- Why a configuration is refused when it is built (93_implementation_defined.md U23). -/
inductive ConfigError where
  /-- `WAVETABLE` has not exactly 256 entries. -/
  | tableLength (n : Nat)
  /-- An entry of `WAVETABLE` is not in 0..255. -/
  | sampleRange
  /-- `DIVISORS` is empty. -/
  | noDivisor
  /-- `DIVISORS` has a zero member, is not strictly rising, or has a member above 1024. -/
  | badDivisors
deriving DecidableEq, Repr

/-- The constructor of a configuration, with the preconditions of R8 checked when it is built and never at run time (U23). -/
def Config.build (samples : List Nat) (divisors : List Nat) : Except ConfigError Config :=
  if samples.length ≠ tableSize then .error (.tableLength samples.length)
  else if samples.any (fun v => decide (255 < v)) then .error .sampleRange
  else match divisors with
    | [] => .error .noDivisor
    | d :: ds =>
      let c : Config := ⟨samples.map (BitVec.ofNat 8), d, ds⟩
      if c.legal then .ok c else .error .badDivisors

/-- Entries 0 to 63 of R191. -/
def sineQuarter0 : List Byte :=
  [127, 130, 133, 136, 139, 143, 146, 149, 152, 155, 158, 161, 164, 167, 170, 173,
   176, 178, 181, 184, 187, 190, 192, 195, 198, 200, 203, 205, 208, 210, 212, 215,
   217, 219, 221, 223, 225, 227, 229, 231, 233, 234, 236, 238, 239, 240, 242, 243,
   244, 245, 247, 248, 249, 249, 250, 251, 252, 252, 253, 253, 253, 254, 254, 254]

/-- Entries 64 to 127 of R191. -/
def sineQuarter1 : List Byte :=
  [254, 254, 254, 254, 253, 253, 253, 252, 252, 251, 250, 249, 249, 248, 247, 245,
   244, 243, 242, 240, 239, 238, 236, 234, 233, 231, 229, 227, 225, 223, 221, 219,
   217, 215, 212, 210, 208, 205, 203, 200, 198, 195, 192, 190, 187, 184, 181, 178,
   176, 173, 170, 167, 164, 161, 158, 155, 152, 149, 146, 143, 139, 136, 133, 130]

/-- Entries 128 to 191 of R191. -/
def sineQuarter2 : List Byte :=
  [127, 124, 121, 118, 115, 111, 108, 105, 102, 99, 96, 93, 90, 87, 84, 81,
   78, 76, 73, 70, 67, 64, 62, 59, 56, 54, 51, 49, 46, 44, 42, 39,
   37, 35, 33, 31, 29, 27, 25, 23, 21, 20, 18, 16, 15, 14, 12, 11,
   10, 9, 7, 6, 5, 5, 4, 3, 2, 2, 1, 1, 1, 0, 0, 0]

/-- Entries 192 to 255 of R191. -/
def sineQuarter3 : List Byte :=
  [0, 0, 0, 0, 1, 1, 1, 2, 2, 3, 4, 5, 5, 6, 7, 9,
   10, 11, 12, 14, 15, 16, 18, 20, 21, 23, 25, 27, 29, 31, 33, 35,
   37, 39, 42, 44, 46, 49, 51, 54, 56, 59, 62, 64, 67, 70, 73, 76,
   78, 81, 84, 87, 90, 93, 96, 99, 102, 105, 108, 111, 115, 118, 121, 124]

/-- The default `WAVETABLE` of 42_wavetable.md R191, the literal list. -/
def sineTable : List Byte := sineQuarter0 ++ sineQuarter1 ++ sineQuarter2 ++ sineQuarter3

/-- The default configuration: R191 and the default `DIVISORS` of R8. -/
def Config.standard : Config := ⟨sineTable, 1, [8, 32, 64, 128, 256, 1024]⟩

/-- `Table(i)` of 42_wavetable.md R195: entry `i`. A legal configuration has an entry at every index. -/
def Config.sample (c : Config) (i : Byte) : Byte := c.wavetable.getD i.toNat 0

end Sys2Proof
end

