-- ==== Sys2Proof/Machine/State.lean ====
section
/-!
DEFINITION. The state of the core (spec 10_state.md R20 to R49), the port signals (30_encoding.md R90), the reasons a step can
stop, and the state after reset (70_reset_and_hazards.md R350).
-/

namespace Sys2Proof.Machine

/-! The codes of the engine sequencer, 10_state.md R24. -/

/-- `IDLE` = 0. -/
abbrev Eng.idle : EngCode := 0
/-- `T0` = 1. -/
abbrev Eng.t0 : EngCode := 1
/-- `CH0` = 2. -/
abbrev Eng.ch0 : EngCode := 2
/-- `CH1` = 3. -/
abbrev Eng.ch1 : EngCode := 3
/-- `T1` = 4. -/
abbrev Eng.t1 : EngCode := 4
/-- `CNT` = 5. -/
abbrev Eng.cnt : EngCode := 5

/-- The inputs of one cycle (30_encoding.md R90). -/
structure PortIn where
  /-- `rst`: synchronous reset, active high. -/
  rst : Bool
  /-- `h_valid`: the host presents a transaction this cycle. -/
  hValid : Bool
  /-- `h_write`: 1 is a write; meaningful with `h_valid = 1`. -/
  hWrite : Bool
  /-- `h_addr`. -/
  hAddr : Addr
  /-- `h_wdata`: ignored on a read. -/
  hWdata : Byte
deriving DecidableEq, Repr

/-- A cycle in which nothing is presented: `rst = 0`, `h_valid = 0`. -/
def PortIn.idle : PortIn := ⟨false, false, false, 0, 0⟩

/-- The outputs of one cycle (30_encoding.md R90, R106). -/
structure PortOut where
  /-- `h_ready`: a transaction presented this cycle is performed this cycle. -/
  hReady : Bool
  /-- `h_rdata`: read data. -/
  hRdata : Byte
  /-- `pwm_out`: bit `c` is the output of channel `c`. -/
  pwmOut : BitVec 2
deriving DecidableEq, Repr

/-- The closed list of reasons of 60_exceptions.md R301. -/
inductive RefusedReason where
  /-- `LOCKED`: `IE = 1`. -/
  | locked
  /-- `NOT_CONFIGURED`: `CFG_VALID = 0`. -/
  | notConfigured
  /-- `READ_ONLY`: the address is read-only. -/
  | readOnly
  /-- `RESERVED_ADDR`: the address is reserved. -/
  | reservedAddr
  /-- `RESERVED_CMD`: command code 0x07..0xFF. -/
  | reservedCmd
deriving DecidableEq, Repr

/-- The state: the registers of R20, then the model's own four fields. -/
structure State where
  /-- `PHACC[0]`, R21. -/
  phacc0 : Word
  /-- `PHACC[1]`, R21. -/
  phacc1 : Word
  /-- `PHINC[0]`, R22. -/
  phinc0 : Word
  /-- `PHINC[1]`, R22. -/
  phinc1 : Word
  /-- `DUTY[0]`, R23. -/
  duty0 : Byte
  /-- `DUTY[1]`, R23. -/
  duty1 : Byte
  /-- `ENG`, R24. -/
  eng : EngCode
  /-- `IE`, R25: the tick is armed. -/
  ie : Bool
  /-- `CFG_VALID`, R26. -/
  cfgValid : Bool
  /-- `CFG_ERR`, R27. -/
  cfgErr : Bool
  /-- `REFUSED`, R28: sticky. -/
  refused : Bool
  /-- `TBDIV`, R31. -/
  tbdiv : Half
  /-- `PRE`, R32. -/
  pre : BitVec 10
  /-- `TBCNT`, R33. -/
  tbcnt : Byte
  /-- `CLKRATE`, R34. -/
  clkrate : Word
  /-- `TGTRATE`, R35. -/
  tgtrate : Word
  /-- `STEPHZ`, R36. -/
  stephz : Word
  /-- `FREQ[0]`, R37. -/
  freq0 : Word
  /-- `FREQ[1]`, R37. -/
  freq1 : Word
  /-- `TICKCNT`, R38. -/
  tickcnt : Half
  /-- `TSTART`, R39. -/
  tstart : Byte
  /-- `TSTOP`, R40. -/
  tstop : Byte
  /-- `TBLIDX`, R41. -/
  tblidx : Byte
  /-- `PWMCNT`, R44. -/
  pwmcnt : Byte
  /-- `DUTYACT[0]`, R45. -/
  dutyact0 : Byte
  /-- `DUTYACT[1]`, R45. -/
  dutyact1 : Byte
  /-- `PEND`, R46: a tick has been raised and its handler run has not started. -/
  pend : Bool
  /-- Model's own (log entry 1): the configuration of R8. No operation changes it (R47). -/
  cfg : Config
  /-- Model's own (log entry 2): the inputs of the coming cycles, the next cycle first; with none left, nothing is presented. -/
  input : List PortIn
  /-- Model's own (log entry 3): the outputs of the last completed cycle. -/
  out : PortOut
  /-- Model's own ghost (log entry 4, R301): the reason of the last refusal. No rule reads it. -/
  refusedWhy : Option RefusedReason
deriving DecidableEq, Repr

/-- Why the machine stops with a fault. -/
inductive Fault where
  /-- Raised by a step with `rst = 0` and `ENG` 6 or 7, which no run from reset reaches and to which no rule gives a
  successor (93_implementation_defined.md U18). Safe: the model stops where the spec says nothing (log entry 5). -/
  | engUnassigned (code : EngCode)
deriving DecidableEq, Repr

/-- Why an instruction has no meaning. -/
inductive Refusal where
  /-- Raised by an arm of `exec` that has no meaning yet. No arm raises it: every operation is modelled. Safe. -/
  | notModelled (mnemonic : String)
deriving DecidableEq, Repr

/-- The three outcomes of an operation or a step. -/
abbrev Result := Host.Outcome State Fault Refusal

/-- Every register at its reset value (R48), with the model's own fields given. -/
def State.resetWith (cfg : Config) (input : List PortIn) (out : PortOut) : State where
  phacc0 := 0
  phacc1 := 0
  phinc0 := 0
  phinc1 := 0
  duty0 := 0
  duty1 := 0
  eng := Eng.idle
  ie := false
  cfgValid := false
  cfgErr := false
  refused := false
  tbdiv := BitVec.ofNat 16 cfg.firstDivisor
  pre := 0
  tbcnt := 0
  clkrate := 0
  tgtrate := 0
  stephz := 0
  freq0 := 0
  freq1 := 0
  tickcnt := 0
  tstart := 0
  tstop := 0
  tblidx := 0
  pwmcnt := 0
  dutyact0 := 0
  dutyact1 := 0
  pend := false
  cfg := cfg
  input := input
  out := out
  refusedWhy := none

/-- The machine right after reset (R48, R350), with the default configuration, no input presented, and the outputs of the reset
cycle (R352; its `pwm_out` is not known, DESIGN CHOICE 00, log entry 3). -/
def State.reset : State := State.resetWith Config.standard [] ⟨false, 0, 0⟩

end Sys2Proof.Machine
end

