-- ==== Sys2Proof/Machine/Flags.lean ====
section
/-!
DEFINITION. The flag computations: the `STATUS` view, the overflow of the timebase, the dispatch condition, the handshake, the
comparators of the PWM driver, and the conditions of refusal.
-/

namespace Sys2Proof.Machine

/-- `STATUS`, the view of spec 10_state.md R29: bit 0 `IE`, bit 1 `CFG_VALID`, bit 2 `CFG_ERR`, bit 3 `REFUSED`, the rest 0. -/
def State.status (s : State) : Byte :=
  0#4 ++ BitVec.ofBool s.refused ++ BitVec.ofBool s.cfgErr ++ BitVec.ofBool s.cfgValid ++ BitVec.ofBool s.ie

/-- `PRE = TBDIV - 1`: the prescaler wraps on this edge (40_timebase.md R121). -/
def State.prescalerWraps (s : State) : Bool := decide (s.pre.toNat + 1 = s.tbdiv.toNat)

/-- `ovf` of R121: the timebase counter overflows on this edge. -/
def State.overflows (s : State) : Bool := s.prescalerWraps && decide (s.tbcnt = 255)

/-- `dispatch` of 41_dds_engine.md R151. -/
def State.dispatches (s : State) : Bool := decide (s.eng = Eng.idle) && s.pend

/-- `ENG = IDLE` and `PEND = 0`: with `rst = 0` a presented transaction is performed (20_memory.md R76). -/
def State.hostMayAct (s : State) : Bool := decide (s.eng = Eng.idle) && !s.pend

/-- `h_ready` of 30_encoding.md R106. -/
def hReady (s : State) (inp : PortIn) : Bool := !inp.rst && s.hostMayAct

/-- A transaction is performed in this cycle (R76). -/
def performs (s : State) (inp : PortIn) : Bool := inp.hValid && hReady s inp

/-- The comparator of 43_pwm.md R213: high while the carrier count is below the active duty. -/
def pwmHigh (count duty : Byte) : Bool := decide (count.toNat < duty.toNat)

/-- `pwm_out[1:0]` of R106, R213. -/
def State.pwmOut (s : State) : BitVec 2 :=
  BitVec.ofBool (pwmHigh s.pwmcnt s.dutyact1) ++ BitVec.ofBool (pwmHigh s.pwmcnt s.dutyact0)

/-- `LOCKED` of 60_exceptions.md R301: refused while the tick is armed. -/
def State.lockedRefusal (s : State) : Option RefusedReason := if s.ie then some .locked else none

/-- `NOT_CONFIGURED` of R301: refused without a successful `CONFIGURE`. -/
def State.unconfiguredRefusal (s : State) : Option RefusedReason := if s.cfgValid then none else some .notConfigured

/-- The two conditions of `SETFREQ`, `LOCKED` tested first (44_host_ops.md R270, 90_conflicts.md C11). -/
def State.setfreqRefusal (s : State) : Option RefusedReason :=
  if s.ie then some .locked else s.unconfiguredRefusal

end Sys2Proof.Machine
end

