-- ==== Sys2Proof/Syntax.lean ====
section
/-!
DEFINITION. The operations of the core: one constructor per operation of spec 30_encoding.md R104 (46 mnemonics, which
`opcode_table.json` lists in 64 rows: an operation whose addresses or codes are no single mask and match pair has several).
-/

namespace Sys2Proof

/-- An operation of the core. `k` is the byte number within a register, `d` the data byte, `a` the address where the operation
covers a set of addresses, `code` a command code (30_encoding.md R93, R94). The data bits of a read are ignored by the core
(R93), so a read carries none. -/
inductive Instr where
  /-- `RD.STATUS`, R231. -/
  | rdStatus
  /-- `RD.CMD`, R232. -/
  | rdCmd
  /-- `RD.TBDIV`, R233. -/
  | rdTbdiv (k : BitVec 1)
  /-- `RD.CLKRATE`, R234. -/
  | rdClkrate (k : BitVec 2)
  /-- `RD.TGTRATE`, R235. -/
  | rdTgtrate (k : BitVec 2)
  /-- `RD.STEPHZ`, R236. -/
  | rdStephz (k : BitVec 2)
  /-- `RD.FREQ0`, R237. -/
  | rdFreq0 (k : BitVec 2)
  /-- `RD.FREQ1`, R238. -/
  | rdFreq1 (k : BitVec 2)
  /-- `RD.PHINC0`, R239. -/
  | rdPhinc0 (k : BitVec 2)
  /-- `RD.PHINC1`, R240. -/
  | rdPhinc1 (k : BitVec 2)
  /-- `RD.PHACC0`, R241. -/
  | rdPhacc0 (k : BitVec 2)
  /-- `RD.PHACC1`, R242. -/
  | rdPhacc1 (k : BitVec 2)
  /-- `RD.TICKCNT`, R243. -/
  | rdTickcnt (k : BitVec 1)
  /-- `RD.TSTART`, R244. -/
  | rdTstart
  /-- `RD.TSTOP`, R245. -/
  | rdTstop
  /-- `RD.DUTY0`, R246. -/
  | rdDuty0
  /-- `RD.DUTY1`, R247. -/
  | rdDuty1
  /-- `RD.TBCNT`, R248. -/
  | rdTbcnt
  /-- `RD.TBLIDX`, R249. -/
  | rdTblidx
  /-- `RD.TBLDATA`, R250. -/
  | rdTbldata
  /-- `RD.RSVD`, R251: a read of the reserved address `a`. -/
  | rdRsvd (a : Addr)
  /-- `WR.CLKRATE`, R256. -/
  | wrClkrate (k : BitVec 2) (d : Byte)
  /-- `WR.TGTRATE`, R257. -/
  | wrTgtrate (k : BitVec 2) (d : Byte)
  /-- `WR.FREQ0`, R258. -/
  | wrFreq0 (k : BitVec 2) (d : Byte)
  /-- `WR.FREQ1`, R259. -/
  | wrFreq1 (k : BitVec 2) (d : Byte)
  /-- `WR.TBLIDX`, R260. -/
  | wrTblidx (d : Byte)
  /-- `WR.PHINC0`, R262. -/
  | wrPhinc0 (k : BitVec 2) (d : Byte)
  /-- `WR.PHINC1`, R263. -/
  | wrPhinc1 (k : BitVec 2) (d : Byte)
  /-- `WR.RO`, R264: a write to the read-only address `a`. -/
  | wrRo (a : Addr) (d : Byte)
  /-- `WR.RSVD`, R265: a write to the reserved address `a`. -/
  | wrRsvd (a : Addr) (d : Byte)
  /-- `CMD.NOP`, R268. -/
  | cmdNop
  /-- `CMD.CONFIGURE`, R125. -/
  | cmdConfigure
  /-- `CMD.ENABLE`, R126. -/
  | cmdEnable
  /-- `CMD.DISABLE`, R127. -/
  | cmdDisable
  /-- `CMD.SETFREQ0`, R270. -/
  | cmdSetfreq0
  /-- `CMD.SETFREQ1`, R271. -/
  | cmdSetfreq1
  /-- `CMD.CLRTICK`, R272. -/
  | cmdClrtick
  /-- `CMD.RSVD`, R269: the reserved command code `code`. -/
  | cmdRsvd (code : Byte)
  /-- `E.DISPATCH`, R151. -/
  | eDispatch
  /-- `E.T0`, R152. -/
  | eT0
  /-- `E.CH0`, R153. -/
  | eCh0
  /-- `E.CH1`, R154. -/
  | eCh1
  /-- `E.T1`, R155. -/
  | eT1
  /-- `E.CNT`, R156. -/
  | eCnt
  /-- `TB.COUNT`, R121. -/
  | tbCount
  /-- `PWM.STEP`, R211. -/
  | pwmStep
deriving DecidableEq, Repr

/-- The five formats of 30_encoding.md R94. -/
inductive Format where
  /-- A host read. -/
  | rd
  /-- A host write other than to `CMD`. -/
  | wr
  /-- A write to `CMD`. -/
  | cmd
  /-- An engine operation, selected by `ENG` (R98). -/
  | eng
  /-- An operation of every edge, with no selecting bits (R105). -/
  | edge
deriving DecidableEq, Repr

/-- The format column of the table of R104. -/
def Instr.format : Instr → Format
  | .rdStatus | .rdCmd | .rdTbdiv _ | .rdClkrate _ | .rdTgtrate _ | .rdStephz _ | .rdFreq0 _ | .rdFreq1 _
  | .rdPhinc0 _ | .rdPhinc1 _ | .rdPhacc0 _ | .rdPhacc1 _ | .rdTickcnt _ | .rdTstart | .rdTstop | .rdDuty0
  | .rdDuty1 | .rdTbcnt | .rdTblidx | .rdTbldata | .rdRsvd _ => .rd
  | .wrClkrate _ _ | .wrTgtrate _ _ | .wrFreq0 _ _ | .wrFreq1 _ _ | .wrTblidx _ | .wrPhinc0 _ _ | .wrPhinc1 _ _
  | .wrRo _ _ | .wrRsvd _ _ => .wr
  | .cmdNop | .cmdConfigure | .cmdEnable | .cmdDisable | .cmdSetfreq0 | .cmdSetfreq1 | .cmdClrtick
  | .cmdRsvd _ => .cmd
  | .eDispatch | .eT0 | .eCh0 | .eCh1 | .eT1 | .eCnt => .eng
  | .tbCount | .pwmStep => .edge

/-- The mnemonic of R104, letter for letter. -/
def Instr.mnemonic : Instr → String
  | .rdStatus => "RD.STATUS"
  | .rdCmd => "RD.CMD"
  | .rdTbdiv _ => "RD.TBDIV"
  | .rdClkrate _ => "RD.CLKRATE"
  | .rdTgtrate _ => "RD.TGTRATE"
  | .rdStephz _ => "RD.STEPHZ"
  | .rdFreq0 _ => "RD.FREQ0"
  | .rdFreq1 _ => "RD.FREQ1"
  | .rdPhinc0 _ => "RD.PHINC0"
  | .rdPhinc1 _ => "RD.PHINC1"
  | .rdPhacc0 _ => "RD.PHACC0"
  | .rdPhacc1 _ => "RD.PHACC1"
  | .rdTickcnt _ => "RD.TICKCNT"
  | .rdTstart => "RD.TSTART"
  | .rdTstop => "RD.TSTOP"
  | .rdDuty0 => "RD.DUTY0"
  | .rdDuty1 => "RD.DUTY1"
  | .rdTbcnt => "RD.TBCNT"
  | .rdTblidx => "RD.TBLIDX"
  | .rdTbldata => "RD.TBLDATA"
  | .rdRsvd _ => "RD.RSVD"
  | .wrClkrate _ _ => "WR.CLKRATE"
  | .wrTgtrate _ _ => "WR.TGTRATE"
  | .wrFreq0 _ _ => "WR.FREQ0"
  | .wrFreq1 _ _ => "WR.FREQ1"
  | .wrTblidx _ => "WR.TBLIDX"
  | .wrPhinc0 _ _ => "WR.PHINC0"
  | .wrPhinc1 _ _ => "WR.PHINC1"
  | .wrRo _ _ => "WR.RO"
  | .wrRsvd _ _ => "WR.RSVD"
  | .cmdNop => "CMD.NOP"
  | .cmdConfigure => "CMD.CONFIGURE"
  | .cmdEnable => "CMD.ENABLE"
  | .cmdDisable => "CMD.DISABLE"
  | .cmdSetfreq0 => "CMD.SETFREQ0"
  | .cmdSetfreq1 => "CMD.SETFREQ1"
  | .cmdClrtick => "CMD.CLRTICK"
  | .cmdRsvd _ => "CMD.RSVD"
  | .eDispatch => "E.DISPATCH"
  | .eT0 => "E.T0"
  | .eCh0 => "E.CH0"
  | .eCh1 => "E.CH1"
  | .eT1 => "E.T1"
  | .eCnt => "E.CNT"
  | .tbCount => "TB.COUNT"
  | .pwmStep => "PWM.STEP"

end Sys2Proof
end

