-- ==== Sys2Proof/WellFormed.lean ====
section
/-!
DEFINITION. Which operations are well formed: an operation that covers a set of addresses or codes carries one of that set
(spec 20_memory.md R67, R68, 30_encoding.md R96, 44_host_ops.md R251, R264, R265, R269). Every other operand may take every
value of its width.
-/

namespace Sys2Proof

/-- The reserved addresses 0x2F and 0x32..0x3F of R67. -/
def reservedAddr (a : Addr) : Bool := a == 0x2F || (0x32 ≤ a.toNat)

/-- The read-only addresses 0x00, 0x02, 0x03, 0x0C..0x0F, 0x20..0x2E, 0x31 of R68. -/
def readOnlyAddr (a : Addr) : Bool :=
  a == 0x00 || a == 0x02 || a == 0x03 || (0x0C ≤ a.toNat && a.toNat ≤ 0x0F)
    || (0x20 ≤ a.toNat && a.toNat ≤ 0x2E) || a == 0x31

/-- The reserved command codes 0x07..0xFF of R96. -/
def reservedCode (code : Byte) : Bool := 0x07 ≤ code.toNat

/-- The operands of an operation lie in the sets its rule names. -/
def Instr.wellFormed : Instr → Bool
  | .rdRsvd a => reservedAddr a
  | .wrRo a _ => readOnlyAddr a
  | .wrRsvd a _ => reservedAddr a
  | .cmdRsvd code => reservedCode code
  | .rdStatus | .rdCmd | .rdTbdiv _ | .rdClkrate _ | .rdTgtrate _ | .rdStephz _ | .rdFreq0 _ | .rdFreq1 _
  | .rdPhinc0 _ | .rdPhinc1 _ | .rdPhacc0 _ | .rdPhacc1 _ | .rdTickcnt _ | .rdTstart | .rdTstop | .rdDuty0
  | .rdDuty1 | .rdTbcnt | .rdTblidx | .rdTbldata
  | .wrClkrate _ _ | .wrTgtrate _ _ | .wrFreq0 _ _ | .wrFreq1 _ _ | .wrTblidx _ | .wrPhinc0 _ _ | .wrPhinc1 _ _
  | .cmdNop | .cmdConfigure | .cmdEnable | .cmdDisable | .cmdSetfreq0 | .cmdSetfreq1 | .cmdClrtick
  | .eDispatch | .eT0 | .eCh0 | .eCh1 | .eT1 | .eCnt | .tbCount | .pwmStep => true

end Sys2Proof
end

