-- ==== Sys2Proof/Decode.lean ====
section
/-!
DEFINITION. Decoding and encoding of operations (spec 30_encoding.md R93 to R98, R104, R105). A host transaction is a 15-bit
word, an engine operation a 3-bit sequencer code, and the two operations of every edge have no selecting bits. The decoder is
total: all 2^15 host words have a meaning (R97); the engine codes 6 and 7, the empty selector and a byte string that is no
selector are rejected by name.
-/

namespace Sys2Proof

/-- What selects an operation: the three kinds of selector of R93, R98 and R105. -/
inductive OpWord where
  /-- The 15-bit word of a host transaction (R93). -/
  | host (w : TxWord)
  /-- The value of the sequencer register `ENG` (R98). -/
  | eng (code : EngCode)
  /-- No selecting bits: performed on every edge (R105). -/
  | edge
deriving DecidableEq, Repr

/-- Why nothing was decoded. -/
inductive DecodeError where
  /-- An `ENG` code 6 or 7, which R98 assigns no operation. -/
  | engCodeUnassigned (code : EngCode)
  /-- Format `EDGE` has no selecting bits (R105): two operations share the empty selector, so none is selected. -/
  | edgeSelectsNothing
  /-- Bit 15 of the two bytes is set: a host word has 15 bits (R93). -/
  | hostWordTooWide
  /-- One of bits 7 to 3 of the one byte is set: an engine code has 3 bits (R98). -/
  | engCodeTooWide
  /-- More than two bytes: the transaction word is the only operation length (R93). -/
  | notASelector (length : Nat)
deriving DecidableEq, Repr

/-- Field `w`, bit 14 of R93: 1 is a write. -/
def TxWord.isWrite (w : TxWord) : Bool := w.getLsbD 14

/-- Field `addr`, bits 13:8 of R93. -/
def TxWord.addr (w : TxWord) : Addr := w.extractLsb' 8 6

/-- Field `data`, bits 7:0 of R93. -/
def TxWord.data (w : TxWord) : Byte := w.extractLsb' 0 8

/-- The word `{h_write, h_addr, h_wdata}` of R93. -/
def TxWord.ofFields (write : Bool) (a : Addr) (d : Byte) : TxWord := BitVec.ofBool write ++ a ++ d

/-- The byte number of a 32-bit register, `k = addr[1:0]` of R94. -/
def byteNumber4 (a : Addr) : BitVec 2 := a.extractLsb' 0 2

/-- The byte number of a 16-bit register, `k = addr[0]` of R94. -/
def byteNumber2 (a : Addr) : BitVec 1 := a.extractLsb' 0 1

/-- Format `RD`: the operation that address `a` selects (rows RD of R104). -/
def decodeRd (a : Addr) : Instr :=
  match (a.extractLsb' 2 4).toNat, (byteNumber4 a).toNat with
  | 0x0, 0 => .rdStatus
  | 0x0, 1 => .rdCmd
  | 0x0, _ => .rdTbdiv (byteNumber2 a)
  | 0x1, _ => .rdClkrate (byteNumber4 a)
  | 0x2, _ => .rdTgtrate (byteNumber4 a)
  | 0x3, _ => .rdStephz (byteNumber4 a)
  | 0x4, _ => .rdFreq0 (byteNumber4 a)
  | 0x5, _ => .rdFreq1 (byteNumber4 a)
  | 0x6, _ => .rdPhinc0 (byteNumber4 a)
  | 0x7, _ => .rdPhinc1 (byteNumber4 a)
  | 0x8, _ => .rdPhacc0 (byteNumber4 a)
  | 0x9, _ => .rdPhacc1 (byteNumber4 a)
  | 0xA, 2 => .rdTstart
  | 0xA, 3 => .rdTstop
  | 0xA, _ => .rdTickcnt (byteNumber2 a)
  | 0xB, 0 => .rdDuty0
  | 0xB, 1 => .rdDuty1
  | 0xB, 2 => .rdTbcnt
  | 0xC, 0 => .rdTblidx
  | 0xC, 1 => .rdTbldata
  | _, _ => .rdRsvd a

/-- Format `CMD`: the operation that command code `d` selects (R95, R96). -/
def decodeCmd (d : Byte) : Instr :=
  match d.toNat with
  | 0x00 => .cmdNop
  | 0x01 => .cmdConfigure
  | 0x02 => .cmdEnable
  | 0x03 => .cmdDisable
  | 0x04 => .cmdSetfreq0
  | 0x05 => .cmdSetfreq1
  | 0x06 => .cmdClrtick
  | _ => .cmdRsvd d

/-- Formats `WR` and `CMD`: the operation that a write of `d` at address `a` selects (rows WR and CMD of R104). -/
def decodeWr (a : Addr) (d : Byte) : Instr :=
  match (a.extractLsb' 2 4).toNat, (byteNumber4 a).toNat with
  | 0x0, 1 => decodeCmd d
  | 0x0, _ => .wrRo a d
  | 0x1, _ => .wrClkrate (byteNumber4 a) d
  | 0x2, _ => .wrTgtrate (byteNumber4 a) d
  | 0x4, _ => .wrFreq0 (byteNumber4 a) d
  | 0x5, _ => .wrFreq1 (byteNumber4 a) d
  | 0x6, _ => .wrPhinc0 (byteNumber4 a) d
  | 0x7, _ => .wrPhinc1 (byteNumber4 a) d
  | 0x3, _ => .wrRo a d
  | 0x8, _ => .wrRo a d
  | 0x9, _ => .wrRo a d
  | 0xA, _ => .wrRo a d
  | 0xB, 3 => .wrRsvd a d
  | 0xB, _ => .wrRo a d
  | 0xC, 0 => .wrTblidx d
  | 0xC, 1 => .wrRo a d
  | _, _ => .wrRsvd a d

/-- A host word always decodes (R97). The data bits of a read are ignored (R93). -/
def decodeHost (w : TxWord) : Instr :=
  if w.isWrite then decodeWr w.addr w.data else decodeRd w.addr

/-- An engine code, as the table of R98 has it. Code 0 selects `E.DISPATCH`, which acts only with `PEND = 1`. -/
def decodeEng (code : EngCode) : Except DecodeError Instr :=
  match code.toNat with
  | 0 => .ok .eDispatch
  | 1 => .ok .eT0
  | 2 => .ok .eCh0
  | 3 => .ok .eCh1
  | 4 => .ok .eT1
  | 5 => .ok .eCnt
  | _ => .error (.engCodeUnassigned code)

/-- The decoder on a selector. -/
def decode : OpWord → Except DecodeError Instr
  | .host w => .ok (decodeHost w)
  | .eng code => decodeEng code
  | .edge => .error .edgeSelectsNothing

/-- A selector from its bytes, the least significant first: two bytes are a host word, one byte an engine code, none the empty
selector (log entry 7). -/
def OpWord.ofBytes : List Byte → Except DecodeError OpWord
  | [] => .ok .edge
  | [c] => if c.toNat < 8 then .ok (.eng (c.setWidth 3)) else .error .engCodeTooWide
  | [lo, hi] => if hi.getLsbD 7 then .error .hostWordTooWide else .ok (.host ((hi ++ lo).setWidth 15))
  | bytes => .error (.notASelector bytes.length)

/-- The decoder on any bytes. -/
def decodeBytes (bytes : List Byte) : Except DecodeError Instr :=
  match OpWord.ofBytes bytes with
  | .ok w => decode w
  | .error e => .error e

/-- The selector of an operation: the encodings of R93 to R98 as 44_host_ops.md, 40_timebase.md and 41_dds_engine.md write them,
the data of a read 0 (R93, canonical form). -/
def encode : Instr → OpWord
  | .rdStatus => .host (.ofFields false 0x00 0)
  | .rdCmd => .host (.ofFields false 0x01 0)
  | .rdTbdiv k => .host (.ofFields false (0b00001#5 ++ k) 0)
  | .rdClkrate k => .host (.ofFields false (0b0001#4 ++ k) 0)
  | .rdTgtrate k => .host (.ofFields false (0b0010#4 ++ k) 0)
  | .rdStephz k => .host (.ofFields false (0b0011#4 ++ k) 0)
  | .rdFreq0 k => .host (.ofFields false (0b0100#4 ++ k) 0)
  | .rdFreq1 k => .host (.ofFields false (0b0101#4 ++ k) 0)
  | .rdPhinc0 k => .host (.ofFields false (0b0110#4 ++ k) 0)
  | .rdPhinc1 k => .host (.ofFields false (0b0111#4 ++ k) 0)
  | .rdPhacc0 k => .host (.ofFields false (0b1000#4 ++ k) 0)
  | .rdPhacc1 k => .host (.ofFields false (0b1001#4 ++ k) 0)
  | .rdTickcnt k => .host (.ofFields false (0b10100#5 ++ k) 0)
  | .rdTstart => .host (.ofFields false 0x2A 0)
  | .rdTstop => .host (.ofFields false 0x2B 0)
  | .rdDuty0 => .host (.ofFields false 0x2C 0)
  | .rdDuty1 => .host (.ofFields false 0x2D 0)
  | .rdTbcnt => .host (.ofFields false 0x2E 0)
  | .rdTblidx => .host (.ofFields false 0x30 0)
  | .rdTbldata => .host (.ofFields false 0x31 0)
  | .rdRsvd a => .host (.ofFields false a 0)
  | .wrClkrate k d => .host (.ofFields true (0b0001#4 ++ k) d)
  | .wrTgtrate k d => .host (.ofFields true (0b0010#4 ++ k) d)
  | .wrFreq0 k d => .host (.ofFields true (0b0100#4 ++ k) d)
  | .wrFreq1 k d => .host (.ofFields true (0b0101#4 ++ k) d)
  | .wrTblidx d => .host (.ofFields true 0x30 d)
  | .wrPhinc0 k d => .host (.ofFields true (0b0110#4 ++ k) d)
  | .wrPhinc1 k d => .host (.ofFields true (0b0111#4 ++ k) d)
  | .wrRo a d => .host (.ofFields true a d)
  | .wrRsvd a d => .host (.ofFields true a d)
  | .cmdNop => .host (.ofFields true 0x01 0x00)
  | .cmdConfigure => .host (.ofFields true 0x01 0x01)
  | .cmdEnable => .host (.ofFields true 0x01 0x02)
  | .cmdDisable => .host (.ofFields true 0x01 0x03)
  | .cmdSetfreq0 => .host (.ofFields true 0x01 0x04)
  | .cmdSetfreq1 => .host (.ofFields true 0x01 0x05)
  | .cmdClrtick => .host (.ofFields true 0x01 0x06)
  | .cmdRsvd code => .host (.ofFields true 0x01 code)
  | .eDispatch => .eng 0
  | .eT0 => .eng 1
  | .eCh0 => .eng 2
  | .eCh1 => .eng 3
  | .eT1 => .eng 4
  | .eCnt => .eng 5
  | .tbCount => .edge
  | .pwmStep => .edge

/-- The bytes of a selector, the least significant first. -/
def OpWord.toBytes : OpWord → List Byte
  | .host w => [w.extractLsb' 0 8, (w.extractLsb' 8 7).setWidth 8]
  | .eng code => [code.setWidth 8]
  | .edge => []

/-- The canonical form of a host word: the data of a read is 0 (R93). -/
def TxWord.canonical (w : TxWord) : TxWord := if w.isWrite then w else .ofFields false w.addr 0

/-- A row of `opcode_table.json` of format RD, WR or CMD: the word `W` selects it when `W & mask = pattern`. -/
structure OpcodeRow where
  mnemonic : String
  pattern : TxWord
  mask : TxWord
deriving DecidableEq, Repr

/-- `W & mask = match` (spec INDEX.md, keys of the opcode table). -/
def OpcodeRow.selectedBy (r : OpcodeRow) (w : TxWord) : Bool := w &&& r.mask == r.pattern

/-- The RD rows of `opcode_table.json`. -/
def readRows : List OpcodeRow :=
  [⟨"RD.STATUS", 0x0000, 0x7F00⟩, ⟨"RD.CMD", 0x0100, 0x7F00⟩, ⟨"RD.TBDIV", 0x0200, 0x7E00⟩,
   ⟨"RD.CLKRATE", 0x0400, 0x7C00⟩, ⟨"RD.TGTRATE", 0x0800, 0x7C00⟩, ⟨"RD.STEPHZ", 0x0C00, 0x7C00⟩,
   ⟨"RD.FREQ0", 0x1000, 0x7C00⟩, ⟨"RD.FREQ1", 0x1400, 0x7C00⟩, ⟨"RD.PHINC0", 0x1800, 0x7C00⟩,
   ⟨"RD.PHINC1", 0x1C00, 0x7C00⟩, ⟨"RD.PHACC0", 0x2000, 0x7C00⟩, ⟨"RD.PHACC1", 0x2400, 0x7C00⟩,
   ⟨"RD.TICKCNT", 0x2800, 0x7E00⟩, ⟨"RD.TSTART", 0x2A00, 0x7F00⟩, ⟨"RD.TSTOP", 0x2B00, 0x7F00⟩,
   ⟨"RD.DUTY0", 0x2C00, 0x7F00⟩, ⟨"RD.DUTY1", 0x2D00, 0x7F00⟩, ⟨"RD.TBCNT", 0x2E00, 0x7F00⟩,
   ⟨"RD.TBLIDX", 0x3000, 0x7F00⟩, ⟨"RD.TBLDATA", 0x3100, 0x7F00⟩, ⟨"RD.RSVD", 0x2F00, 0x7F00⟩,
   ⟨"RD.RSVD", 0x3200, 0x7E00⟩, ⟨"RD.RSVD", 0x3400, 0x7C00⟩, ⟨"RD.RSVD", 0x3800, 0x7800⟩]

/-- The WR rows of `opcode_table.json`. -/
def writeRows : List OpcodeRow :=
  [⟨"WR.CLKRATE", 0x4400, 0x7C00⟩, ⟨"WR.TGTRATE", 0x4800, 0x7C00⟩, ⟨"WR.FREQ0", 0x5000, 0x7C00⟩,
   ⟨"WR.FREQ1", 0x5400, 0x7C00⟩, ⟨"WR.TBLIDX", 0x7000, 0x7F00⟩, ⟨"WR.PHINC0", 0x5800, 0x7C00⟩,
   ⟨"WR.PHINC1", 0x5C00, 0x7C00⟩, ⟨"WR.RO", 0x4000, 0x7F00⟩, ⟨"WR.RO", 0x4200, 0x7E00⟩,
   ⟨"WR.RO", 0x4C00, 0x7C00⟩, ⟨"WR.RO", 0x6000, 0x7800⟩, ⟨"WR.RO", 0x6800, 0x7C00⟩,
   ⟨"WR.RO", 0x6C00, 0x7E00⟩, ⟨"WR.RO", 0x6E00, 0x7F00⟩, ⟨"WR.RO", 0x7100, 0x7F00⟩,
   ⟨"WR.RSVD", 0x6F00, 0x7F00⟩, ⟨"WR.RSVD", 0x7200, 0x7E00⟩, ⟨"WR.RSVD", 0x7400, 0x7C00⟩,
   ⟨"WR.RSVD", 0x7800, 0x7800⟩]

/-- The CMD rows of `opcode_table.json`. -/
def commandRows : List OpcodeRow :=
  [⟨"CMD.NOP", 0x4100, 0x7FFF⟩, ⟨"CMD.CONFIGURE", 0x4101, 0x7FFF⟩, ⟨"CMD.ENABLE", 0x4102, 0x7FFF⟩,
   ⟨"CMD.DISABLE", 0x4103, 0x7FFF⟩, ⟨"CMD.SETFREQ0", 0x4104, 0x7FFF⟩, ⟨"CMD.SETFREQ1", 0x4105, 0x7FFF⟩,
   ⟨"CMD.CLRTICK", 0x4106, 0x7FFF⟩, ⟨"CMD.RSVD", 0x4107, 0x7FFF⟩, ⟨"CMD.RSVD", 0x4108, 0x7FF8⟩,
   ⟨"CMD.RSVD", 0x4110, 0x7FF0⟩, ⟨"CMD.RSVD", 0x4120, 0x7FE0⟩, ⟨"CMD.RSVD", 0x4140, 0x7FC0⟩,
   ⟨"CMD.RSVD", 0x4180, 0x7F80⟩]

/-- All rows of `opcode_table.json` that a host word selects. -/
def hostRows : List OpcodeRow := readRows ++ writeRows ++ commandRows

/-- The bytes of the number `w`, the least significant first, `n` of them. -/
def bytesOf : Nat → Nat → List Byte
  | 0, _ => []
  | n + 1, w => BitVec.ofNat 8 w :: bytesOf n (w / 256)

/-- The operation the decoder reads from an opcode-table word of `nbits` bits (whole bytes) and value `w`; none where the
decoder rejects, and where `w` has a bit beyond `nbits` (log entry 7). -/
def decodeTableWord (nbits w : Nat) : Option Instr :=
  if w < 2 ^ nbits then
    match decodeBytes (bytesOf ((nbits + 7) / 8) w) with
    | .ok i => some i
    | .error _ => none
  else none

end Sys2Proof
end

