-- ==== Sys2Proof/Machine/Operands.lean ====
section
/-!
DEFINITION. The operand forms: byte `k` of a register (spec 20_memory.md R62, R77, 44_host_ops.md), the table index of an
accumulator (41_dds_engine.md R159), and a port presentation of a transaction word (30_encoding.md R93).
-/

namespace Sys2Proof.Machine

/-- `X[8k+7:8k]` of a 32-bit register (R62). -/
def byteOfWord (v : Word) (k : BitVec 2) : Byte := v.extractLsb' (8 * k.toNat) 8

/-- `X[8k+7:8k]` of a 16-bit register (R62). -/
def byteOfHalf (v : Half) (k : BitVec 1) : Byte := v.extractLsb' (8 * k.toNat) 8

/-- The register after `X[8k+7:8k] <- d`: the other three bytes keep their value (R256, R77). -/
def setByte (v : Word) (k : BitVec 2) (d : Byte) : Word :=
  (v &&& ~~~(0xFF#32 <<< (8 * k.toNat))) ||| (d.setWidth 32 <<< (8 * k.toNat))

/-- `a >> 24`, the table index of an accumulator value (R159). -/
def tableIndex (a : Word) : Byte := (a >>> shift).setWidth 8

/-- The word `(h_write, h_addr, h_wdata)` that a cycle's inputs present (R93). -/
def PortIn.word (p : PortIn) : TxWord := TxWord.ofFields p.hWrite p.hAddr p.hWdata

/-- A cycle that presents the transaction `w` (R92, R93). -/
def PortIn.ofWord (w : TxWord) : PortIn := ⟨false, true, w.isWrite, w.addr, w.data⟩

end Sys2Proof.Machine
end

