-- ==== Sys2Proof/Machine/Ops.lean ====
section
/-!
DEFINITION. The shared operations over the registers: delivering read data, refusing, the tick as the core's one interrupt (raise,
entry, return), the arithmetic of the phase and of the tuning word, and the bracket of a clock cycle.
-/

namespace Sys2Proof.Machine

/-- Run `f` on the next state, if there is one. -/
def andThen (r : Result) (f : State → Result) : Result :=
  match r with
  | .next s => f s
  | .fault e => .fault e
  | .refused e => .refused e

/-- A read delivers its byte on `h_rdata` and changes no register (spec 20_memory.md R65, 44_host_ops.md R230). -/
def State.deliver (s : State) (b : Byte) : State := { s with out := { s.out with hRdata := b } }

/-- `raise Refused(reason)` of 60_exceptions.md R301: `REFUSED <- 1` and nothing else; the reason goes to the ghost field. -/
def State.raiseRefused (s : State) (why : RefusedReason) : State := { s with refused := true, refusedWhy := some why }

/-- An operation that is refused for the reason given, if any, and otherwise gives `done` (R301). -/
def unlessRefused (why : Option RefusedReason) (s done : State) : Result :=
  match why with
  | some r => .next (s.raiseRefused r)
  | none => .next done

/-- The tick is raised: an overflow with `IE = 1` sets `PEND`; any other edge leaves it (40_timebase.md R122, 60_exceptions.md
R302). The clearing on a dispatch is `enterTick`'s, which comes before. -/
def State.latchTick (s : State) (ovf : Bool) : State := { s with pend := s.pend || (ovf && s.ie) }

/-- Trap entry (60_exceptions.md R307): `ENG` becomes `T0` and `PEND` 0; nothing is saved and `IE` stays. -/
def State.enterTick (s : State) : State := { s with eng := Eng.t0, pend := false }

/-- Return from the handler run (60_exceptions.md R308): `ENG <- IDLE`; nothing is restored. -/
def State.returnFromTick (s : State) : State := { s with eng := Eng.idle }

/-- The phase step `(PHACC + PHINC) mod 2^32` (41_dds_engine.md R158). -/
def phaseStep (acc inc : Word) : Word := acc + inc

/-- The sample that the table gives for an accumulator value (R159, 42_wavetable.md R195). -/
def sampleOf (c : Config) (acc : Word) : Byte := c.sample (tableIndex acc)

/-- `floor(2^32 / tgt) mod 2^32` for a non-zero target rate (40_timebase.md R129). -/
def stepsPerHz (tgt : Word) : Word := BitVec.ofNat 32 (2 ^ 32 / tgt.toNat)

/-- `(FREQ * STEPHZ) mod 2^32` (44_host_ops.md R270). -/
def phaseIncrement (freq stephz : Word) : Word := freq * stephz

/-- `err(d) = |clk - 256 * d * tgt|` of R124, on exact integers. -/
def rateError (clk tgt d : Nat) : Nat := ((clk : Int) - (tbModulus * d * tgt : Nat)).natAbs

/-- One round of the loop of R124: `d` replaces `best` when it is strictly nearer. -/
def nearerDivisor (clk tgt best d : Nat) : Nat :=
  if rateError clk tgt d * best < rateError clk tgt best * d then d else best

/-- `select_div(clk, tgt)` of R124 over `DIVISORS`. -/
def selectDiv (c : Config) (clk tgt : Nat) : Nat :=
  c.moreDivisors.foldl (nearerDivisor clk tgt) c.firstDivisor

/-- The inputs of the coming cycle: the head of the input list, or nothing presented (log entry 2). -/
def State.presented (s : State) : PortIn := s.input.headD PortIn.idle

/-- The cycle's inputs are taken, and its outputs shown with `h_rdata = 0x00` until a read delivers (30_encoding.md R92, R106). -/
def State.openCycle (s : State) : State :=
  { s with input := s.input.tail, out := ⟨hReady s s.presented, 0, s.pwmOut⟩ }

/-- Reset: every register takes its reset value, whatever the state; the configuration is no state (70_reset_and_hazards.md R350). -/
def State.resetRegisters (s : State) : State := State.resetWith s.cfg s.input s.out

end Sys2Proof.Machine
end

