-- ==== Sys2Proof/Machine/Commands.lean ====
section
/-!
DEFINITION. The commands, format CMD (spec 40_timebase.md R125 to R127, 44_host_ops.md R268 to R272).
-/

namespace Sys2Proof.Machine

/-- `CMD.NOP`, R268. -/
def execCmdNop (s : State) : Result := .next s

/-- A successful `CONFIGURE` (R125): the divisor and `STEPHZ` follow from the rates, and the count restarts. -/
def State.configured (s : State) : State :=
  { s with
    tbdiv := BitVec.ofNat 16 (selectDiv s.cfg s.clkrate.toNat s.tgtrate.toNat)
    stephz := stepsPerHz s.tgtrate
    pre := 0
    tbcnt := 0
    cfgValid := true
    cfgErr := false }

/-- `CMD.CONFIGURE`, R125: refused while armed; a zero rate sets `CFG_ERR` and clears `CFG_VALID`. -/
def execCmdConfigure (s : State) : Result :=
  unlessRefused s.lockedRefusal s
    (if s.clkrate = 0 ∨ s.tgtrate = 0 then { s with cfgErr := true, cfgValid := false } else s.configured)

/-- `CMD.ENABLE`, R126: refused without a successful `CONFIGURE`. -/
def execCmdEnable (s : State) : Result := unlessRefused s.unconfiguredRefusal s { s with ie := true }

/-- `CMD.DISABLE`, R127: also discards an overflow of its own edge. -/
def execCmdDisable (s : State) : Result := .next { s with ie := false, pend := false }

/-- `CMD.SETFREQ0`, R270. -/
def execCmdSetfreq0 (s : State) : Result :=
  unlessRefused s.setfreqRefusal s { s with phinc0 := phaseIncrement s.freq0 s.stephz }

/-- `CMD.SETFREQ1`, R271. -/
def execCmdSetfreq1 (s : State) : Result :=
  unlessRefused s.setfreqRefusal s { s with phinc1 := phaseIncrement s.freq1 s.stephz }

/-- `CMD.CLRTICK`, R272: allowed with `IE = 1`. -/
def execCmdClrtick (s : State) : Result := .next { s with tickcnt := 0 }

/-- `CMD.RSVD`, R269: a reserved code is refused. -/
def execCmdRsvd (_code : Byte) (s : State) : Result := .next (s.raiseRefused .reservedCmd)

end Sys2Proof.Machine
end

