-- ==== Sys2Proof/Machine/Engine.lean ====
section
/-!
DEFINITION. The engine operations, format ENG (spec 41_dds_engine.md R151 to R156): the dispatch of a tick and the five steps of
a handler run.
-/

namespace Sys2Proof.Machine

/-- Entry into the handler run when a tick is pending and the engine idle; otherwise nothing (R151). -/
def State.dispatchTick (s : State) : State := if s.dispatches then s.enterTick else s

/-- The start timestamp (R152). -/
def State.recordStart (s : State) : State := { s with tstart := s.tbcnt, eng := Eng.ch0 }

/-- The phase step, lookup and output of channel 0 (R153). -/
def State.advanceChannel0 (s : State) : State :=
  let a := phaseStep s.phacc0 s.phinc0
  { s with phacc0 := a, duty0 := sampleOf s.cfg a, eng := Eng.ch1 }

/-- The phase step, lookup and output of channel 1 (R154). -/
def State.advanceChannel1 (s : State) : State :=
  let a := phaseStep s.phacc1 s.phinc1
  { s with phacc1 := a, duty1 := sampleOf s.cfg a, eng := Eng.t1 }

/-- The stop timestamp (R155). -/
def State.recordStop (s : State) : State := { s with tstop := s.tbcnt, eng := Eng.cnt }

/-- The tick is counted, modulo 2^16 (R156). -/
def State.countTick (s : State) : State := { s with tickcnt := s.tickcnt + 1 }

/-- `E.DISPATCH`, R151. -/
def execEDispatch (s : State) : Result := .next s.dispatchTick

/-- `E.T0`, R152: the count is that of the cycle, before this edge's `TB.COUNT`. -/
def execET0 (s : State) : Result := .next s.recordStart

/-- `E.CH0`, R153: the sample is that of the accumulator after the addition. -/
def execECh0 (s : State) : Result := .next s.advanceChannel0

/-- `E.CH1`, R154. -/
def execECh1 (s : State) : Result := .next s.advanceChannel1

/-- `E.T1`, R155. -/
def execET1 (s : State) : Result := .next s.recordStop

/-- `E.CNT`, R156: count the tick and return (60_exceptions.md R308). -/
def execECnt (s : State) : Result := .next s.countTick.returnFromTick

end Sys2Proof.Machine
end

