-- ==== Sys2Proof/Machine/EveryEdge.lean ====
section
/-!
DEFINITION. The operations of every edge, format EDGE: the timebase count (spec 40_timebase.md R121) and the PWM carrier step
(43_pwm.md R211).
-/

namespace Sys2Proof.Machine

/-- The count of R121. `PRE + 1` keeps the ten bits of the register (log entry 8). -/
def State.timebaseCount (s : State) : State :=
  if s.prescalerWraps then { s with pre := 0, tbcnt := s.tbcnt + 1 } else { s with pre := s.pre + 1 }

/-- The carrier of R211: it counts, and on its wrap the active duties are copied. -/
def State.carrierStep (s : State) : State :=
  if s.pwmcnt = 255 then { s with pwmcnt := s.pwmcnt + 1, dutyact0 := s.duty0, dutyact1 := s.duty1 }
  else { s with pwmcnt := s.pwmcnt + 1 }

/-- `TB.COUNT`, R121. The within-edge value `ovf` is `State.overflows` of the state before (log entry 6). -/
def execTbCount (s : State) : Result := .next s.timebaseCount

/-- `PWM.STEP`, R211. -/
def execPwmStep (s : State) : Result := .next s.carrierStep

end Sys2Proof.Machine
end

