-- ==== Sys2Proof/Machine/Reads.lean ====
section
/-!
DEFINITION. The reads, format RD (spec 44_host_ops.md R231 to R251): each delivers one byte and changes no register. No read is
refused (60_exceptions.md R301).
-/

namespace Sys2Proof.Machine

/-- `RD.STATUS`, R231. -/
def execRdStatus (s : State) : Result := .next (s.deliver s.status)

/-- `RD.CMD`, R232: the command register holds nothing. -/
def execRdCmd (s : State) : Result := .next (s.deliver 0x00)

/-- `RD.TBDIV`, R233. -/
def execRdTbdiv (k : BitVec 1) (s : State) : Result := .next (s.deliver (byteOfHalf s.tbdiv k))

/-- `RD.CLKRATE`, R234. -/
def execRdClkrate (k : BitVec 2) (s : State) : Result := .next (s.deliver (byteOfWord s.clkrate k))

/-- `RD.TGTRATE`, R235. -/
def execRdTgtrate (k : BitVec 2) (s : State) : Result := .next (s.deliver (byteOfWord s.tgtrate k))

/-- `RD.STEPHZ`, R236. -/
def execRdStephz (k : BitVec 2) (s : State) : Result := .next (s.deliver (byteOfWord s.stephz k))

/-- `RD.FREQ0`, R237. -/
def execRdFreq0 (k : BitVec 2) (s : State) : Result := .next (s.deliver (byteOfWord s.freq0 k))

/-- `RD.FREQ1`, R238. -/
def execRdFreq1 (k : BitVec 2) (s : State) : Result := .next (s.deliver (byteOfWord s.freq1 k))

/-- `RD.PHINC0`, R239. -/
def execRdPhinc0 (k : BitVec 2) (s : State) : Result := .next (s.deliver (byteOfWord s.phinc0 k))

/-- `RD.PHINC1`, R240. -/
def execRdPhinc1 (k : BitVec 2) (s : State) : Result := .next (s.deliver (byteOfWord s.phinc1 k))

/-- `RD.PHACC0`, R241 (readable by 90_conflicts.md C2). -/
def execRdPhacc0 (k : BitVec 2) (s : State) : Result := .next (s.deliver (byteOfWord s.phacc0 k))

/-- `RD.PHACC1`, R242. -/
def execRdPhacc1 (k : BitVec 2) (s : State) : Result := .next (s.deliver (byteOfWord s.phacc1 k))

/-- `RD.TICKCNT`, R243: reading does not clear the counter. -/
def execRdTickcnt (k : BitVec 1) (s : State) : Result := .next (s.deliver (byteOfHalf s.tickcnt k))

/-- `RD.TSTART`, R244. -/
def execRdTstart (s : State) : Result := .next (s.deliver s.tstart)

/-- `RD.TSTOP`, R245. -/
def execRdTstop (s : State) : Result := .next (s.deliver s.tstop)

/-- `RD.DUTY0`, R246. -/
def execRdDuty0 (s : State) : Result := .next (s.deliver s.duty0)

/-- `RD.DUTY1`, R247. -/
def execRdDuty1 (s : State) : Result := .next (s.deliver s.duty1)

/-- `RD.TBCNT`, R248: the count of the cycle in which the read is performed. -/
def execRdTbcnt (s : State) : Result := .next (s.deliver s.tbcnt)

/-- `RD.TBLIDX`, R249. -/
def execRdTblidx (s : State) : Result := .next (s.deliver s.tblidx)

/-- `RD.TBLDATA`, R250: the index is not advanced. -/
def execRdTbldata (s : State) : Result := .next (s.deliver (s.cfg.sample s.tblidx))

/-- `RD.RSVD`, R251: 0x00, and no refusal. -/
def execRdRsvd (_a : Addr) (s : State) : Result := .next (s.deliver 0x00)

end Sys2Proof.Machine
end

