-- ==== Sys2Proof/Machine/Writes.lean ====
section
/-!
DEFINITION. The writes, format WR (spec 44_host_ops.md R256 to R265): one byte of one register, or a refusal.
-/

namespace Sys2Proof.Machine

/-- `WR.CLKRATE`, R256: never refused, armed or not. -/
def execWrClkrate (k : BitVec 2) (d : Byte) (s : State) : Result :=
  .next { s with clkrate := setByte s.clkrate k d }

/-- `WR.TGTRATE`, R257: `STEPHZ` and `TBDIV` follow only at the next `CONFIGURE`. -/
def execWrTgtrate (k : BitVec 2) (d : Byte) (s : State) : Result :=
  .next { s with tgtrate := setByte s.tgtrate k d }

/-- `WR.FREQ0`, R258: staging only. -/
def execWrFreq0 (k : BitVec 2) (d : Byte) (s : State) : Result :=
  .next { s with freq0 := setByte s.freq0 k d }

/-- `WR.FREQ1`, R259. -/
def execWrFreq1 (k : BitVec 2) (d : Byte) (s : State) : Result :=
  .next { s with freq1 := setByte s.freq1 k d }

/-- `WR.TBLIDX`, R260. -/
def execWrTblidx (d : Byte) (s : State) : Result := .next { s with tblidx := d }

/-- `WR.PHINC0`, R262: refused while armed. -/
def execWrPhinc0 (k : BitVec 2) (d : Byte) (s : State) : Result :=
  unlessRefused s.lockedRefusal s { s with phinc0 := setByte s.phinc0 k d }

/-- `WR.PHINC1`, R263: refused while armed. -/
def execWrPhinc1 (k : BitVec 2) (d : Byte) (s : State) : Result :=
  unlessRefused s.lockedRefusal s { s with phinc1 := setByte s.phinc1 k d }

/-- `WR.RO`, R264: always refused, whatever the data. -/
def execWrRo (_a : Addr) (_d : Byte) (s : State) : Result := .next (s.raiseRefused .readOnly)

/-- `WR.RSVD`, R265: always refused, whatever the data. -/
def execWrRsvd (_a : Addr) (_d : Byte) (s : State) : Result := .next (s.raiseRefused .reservedAddr)

end Sys2Proof.Machine
end

