-- ==== Sys2Proof/Machine/Dispatch.lean ====
section
/-!
DEFINITION. One arm per operation: the meaning of each, in the order of the table of spec 30_encoding.md R104.
-/

namespace Sys2Proof.Machine

def exec (i : Instr) (s : State) : Host.Outcome State Fault Refusal :=
  match i with
  | .rdStatus => Sys2Proof.Machine.execRdStatus s
  | .rdCmd => Sys2Proof.Machine.execRdCmd s
  | .rdTbdiv k => Sys2Proof.Machine.execRdTbdiv k s
  | .rdClkrate k => Sys2Proof.Machine.execRdClkrate k s
  | .rdTgtrate k => Sys2Proof.Machine.execRdTgtrate k s
  | .rdStephz k => Sys2Proof.Machine.execRdStephz k s
  | .rdFreq0 k => Sys2Proof.Machine.execRdFreq0 k s
  | .rdFreq1 k => Sys2Proof.Machine.execRdFreq1 k s
  | .rdPhinc0 k => Sys2Proof.Machine.execRdPhinc0 k s
  | .rdPhinc1 k => Sys2Proof.Machine.execRdPhinc1 k s
  | .rdPhacc0 k => Sys2Proof.Machine.execRdPhacc0 k s
  | .rdPhacc1 k => Sys2Proof.Machine.execRdPhacc1 k s
  | .rdTickcnt k => Sys2Proof.Machine.execRdTickcnt k s
  | .rdTstart => Sys2Proof.Machine.execRdTstart s
  | .rdTstop => Sys2Proof.Machine.execRdTstop s
  | .rdDuty0 => Sys2Proof.Machine.execRdDuty0 s
  | .rdDuty1 => Sys2Proof.Machine.execRdDuty1 s
  | .rdTbcnt => Sys2Proof.Machine.execRdTbcnt s
  | .rdTblidx => Sys2Proof.Machine.execRdTblidx s
  | .rdTbldata => Sys2Proof.Machine.execRdTbldata s
  | .rdRsvd a => Sys2Proof.Machine.execRdRsvd a s
  | .wrClkrate k d => Sys2Proof.Machine.execWrClkrate k d s
  | .wrTgtrate k d => Sys2Proof.Machine.execWrTgtrate k d s
  | .wrFreq0 k d => Sys2Proof.Machine.execWrFreq0 k d s
  | .wrFreq1 k d => Sys2Proof.Machine.execWrFreq1 k d s
  | .wrTblidx d => Sys2Proof.Machine.execWrTblidx d s
  | .wrPhinc0 k d => Sys2Proof.Machine.execWrPhinc0 k d s
  | .wrPhinc1 k d => Sys2Proof.Machine.execWrPhinc1 k d s
  | .wrRo a d => Sys2Proof.Machine.execWrRo a d s
  | .wrRsvd a d => Sys2Proof.Machine.execWrRsvd a d s
  | .cmdNop => Sys2Proof.Machine.execCmdNop s
  | .cmdConfigure => Sys2Proof.Machine.execCmdConfigure s
  | .cmdEnable => Sys2Proof.Machine.execCmdEnable s
  | .cmdDisable => Sys2Proof.Machine.execCmdDisable s
  | .cmdSetfreq0 => Sys2Proof.Machine.execCmdSetfreq0 s
  | .cmdSetfreq1 => Sys2Proof.Machine.execCmdSetfreq1 s
  | .cmdClrtick => Sys2Proof.Machine.execCmdClrtick s
  | .cmdRsvd code => Sys2Proof.Machine.execCmdRsvd code s
  | .eDispatch => Sys2Proof.Machine.execEDispatch s
  | .eT0 => Sys2Proof.Machine.execET0 s
  | .eCh0 => Sys2Proof.Machine.execECh0 s
  | .eCh1 => Sys2Proof.Machine.execECh1 s
  | .eT1 => Sys2Proof.Machine.execET1 s
  | .eCnt => Sys2Proof.Machine.execECnt s
  | .tbCount => Sys2Proof.Machine.execTbCount s
  | .pwmStep => Sys2Proof.Machine.execPwmStep s

end Sys2Proof.Machine
end

