-- ==== Sys2Proof/Machine/Edge.lean ====
section
/-!
DEFINITION. One clock cycle and the edge that ends it (spec 00_scope.md R11, 60_exceptions.md R306, 70_reset_and_hazards.md R351),
as a sequence of operations: a performed read (its data are of the cycle), `PWM.STEP`, the engine operation that `ENG` selects,
`TB.COUNT`, the pending latch, and a performed write or command last, whose assignments win. In this order every operation reads
only registers that none before it has written, so each reads the pre-edge state as R11 asks (log entry 6).
-/

namespace Sys2Proof.Machine

/-- The engine operation that `ENG` selects (30_encoding.md R98); codes 6 and 7 select none (log entry 5). -/
def engineOp (s : State) : Result :=
  match decodeEng s.eng with
  | .ok i => exec i s
  | .error _ => .fault (.engUnassigned s.eng)

/-- What happens on every edge with `rst = 0`, apart from the host: steps 1 to 4 of R351. -/
def everyEdge (s : State) : Result :=
  andThen (exec .pwmStep s) fun s1 =>
  andThen (engineOp s1) fun s2 =>
  andThen (exec .tbCount s2) fun s3 =>
  .next (s3.latchTick s.overflows)

/-- The transaction of the cycle, if it is performed and a read (`write = false`) or a write (`write = true`). -/
def hostOp (write : Bool) (inp : PortIn) (performed : Bool) (s : State) : Result :=
  if performed && (inp.hWrite == write) then exec (decodeHost inp.word) s else .next s

/-- One clock cycle with the inputs that stand first in the input list. -/
def clockCycle (s : State) : Result :=
  let inp := s.presented
  let performed := performs s inp
  let s0 := s.openCycle
  if inp.rst then .next s0.resetRegisters
  else
    andThen (hostOp false inp performed s0) fun s1 =>
    andThen (everyEdge s1) fun s2 =>
    hostOp true inp performed s2

/-- The selector that an opcode-table word of `nbits` bits and value `w` is, if it is one. -/
def tableSelector (nbits w : Nat) : Option OpWord :=
  if w < 2 ^ nbits then
    match OpWord.ofBytes (bytesOf ((nbits + 7) / 8) w) with
    | .ok op => some op
    | .error _ => none
  else none

/-- The state with the operation that `op` selects to be performed in the coming cycle: a host word is presented in it, with the
engine idle and no tick pending, as R76 needs; an engine code stands in `ENG`, with a tick pending for code 0, as R151 needs, and
nothing presented; the operations of every edge need only a cycle without reset (log entry 7). -/
def State.withSelector (s : State) (op : Option OpWord) : State :=
  match op with
  | some (.host w) => { s with eng := Eng.idle, pend := false, input := PortIn.ofWord w :: s.input }
  | some (.eng code) =>
    { s with eng := code, pend := s.pend || decide (code = Eng.idle), input := PortIn.idle :: s.input }
  | some .edge => { s with input := PortIn.idle :: s.input }
  | none => { s with input := PortIn.idle :: s.input }

end Sys2Proof.Machine
end

