-- ==== Sys2Proof/Machine/Step.lean ====
section
/-!
DEFINITION. One step of the machine is one clock cycle (spec 00_scope.md R11), and the placing of an operation where the next step
performs it.
-/

namespace Sys2Proof.Machine

/-- One step. -/
def step (s : State) : Host.Outcome State Fault Refusal := clockCycle s

/-- The state in which the very next step performs the operation of an opcode-table word (log entries 2, 7). -/
def State.withFetchWord (s : State) (nbits w : Nat) : State := s.withSelector (tableSelector nbits w)

end Sys2Proof.Machine
end

