-- ==== Sys2Proof/Machine/Script.lean ====
section
/-!
DEFINITION. Host scripts (spec 30_encoding.md R100 to R103): the statements, the pseudo-statements, and how a script is run on the
machine, one host among many (60_exceptions.md R320). The machine does not use them.
-/

namespace Sys2Proof.Machine

/-- A statement of R101. -/
inductive Stmt where
  /-- `RD a`. -/
  | rd (a : Addr)
  /-- `WR a, d`. -/
  | wr (a : Addr) (d : Byte)
  /-- `IDLE n`. -/
  | idle (n : Nat)
deriving DecidableEq, Repr

/-- `CMD name`: `WR 0x01, code` (R101). -/
def Stmt.cmd (code : Byte) : Stmt := .wr 0x01 code

/-- `WR32 reg, v` of R102. -/
def Stmt.wr32 (reg : Addr) (v : Word) : List Stmt :=
  [.wr reg (byteOfWord v 0), .wr (reg + 1) (byteOfWord v 1), .wr (reg + 2) (byteOfWord v 2), .wr (reg + 3) (byteOfWord v 3)]

/-- `RD16 reg` of R102. -/
def Stmt.rd16 (reg : Addr) : List Stmt := [.rd reg, .rd (reg + 1)]

/-- `RD32 reg` of R102. -/
def Stmt.rd32 (reg : Addr) : List Stmt := [.rd reg, .rd (reg + 1), .rd (reg + 2), .rd (reg + 3)]

/-- `CONFIG clk, rate` of R102, the document's `configure(clock_rate, target_tick_rate)` (R100). -/
def Stmt.config (clk rate : Word) : List Stmt := Stmt.wr32 0x04 clk ++ Stmt.wr32 0x08 rate ++ [Stmt.cmd 0x01]

/-- `TONE c, hz` of R102, channel 0 or 1. -/
def Stmt.tone (channel1 : Bool) (hz : Word) : List Stmt :=
  if channel1 then Stmt.wr32 0x14 hz ++ [Stmt.cmd 0x05] else Stmt.wr32 0x10 hz ++ [Stmt.cmd 0x04]

/-- `TBL i` of R102. -/
def Stmt.tbl (i : Byte) : List Stmt := [.wr 0x30 i, .rd 0x31]

/-- `enable()` of R100. -/
def Stmt.enable : Stmt := Stmt.cmd 0x02

/-- `disable()` of R100. -/
def Stmt.disable : Stmt := Stmt.cmd 0x03

/-- A script being run: the state, the read log (R101), and the cycles occupied so far (R103). -/
structure ScriptRun where
  state : State
  log : List Byte
  cycles : Nat
deriving DecidableEq, Repr

/-- One cycle with the inputs given (R103: `rst` stays 0). -/
def ScriptRun.cycle (p : PortIn) (r : ScriptRun) : Option ScriptRun :=
  match step { r.state with input := [p] } with
  | .next t => some { r with state := t, cycles := r.cycles + 1 }
  | .fault _ => none
  | .refused _ => none

/-- `n` cycles with `h_valid = 0`. -/
def ScriptRun.idleFor : Nat → ScriptRun → Option ScriptRun
  | 0, r => some r
  | n + 1, r => (r.cycle PortIn.idle).bind (ScriptRun.idleFor n)

/-- A transaction is presented in every cycle up to the one in which `h_ready = 1`; a read then appends its byte to the log (R101,
R103). The number bounds the cycles tried: a transaction waits at most 6 cycles (70_reset_and_hazards.md R364). -/
def ScriptRun.transact (p : PortIn) : Nat → ScriptRun → Option ScriptRun
  | 0, _ => none
  | n + 1, r =>
    (r.cycle p).bind fun r' =>
      if r'.state.out.hReady then
        some (if p.hWrite then r' else { r' with log := r'.log ++ [r'.state.out.hRdata] })
      else ScriptRun.transact p n r'

/-- One statement. -/
def ScriptRun.stmt : Stmt → ScriptRun → Option ScriptRun
  | .rd a, r => r.transact ⟨false, true, false, a, 0⟩ 7
  | .wr a d, r => r.transact ⟨false, true, true, a, d⟩ 7
  | .idle n, r => ScriptRun.idleFor n r

/-- The statements one after the other, back to back (R103). -/
def ScriptRun.run : List Stmt → ScriptRun → Option ScriptRun
  | [], r => some r
  | c :: rest, r => (ScriptRun.stmt c r).bind (ScriptRun.run rest)

/-- A script from the reset state, cycle 0 (R103). -/
def runScript (script : List Stmt) : Option ScriptRun := ScriptRun.run script ⟨State.reset, [], 0⟩

end Sys2Proof.Machine
end

