-- ==== Sys2Proof/Machine/HostSpace.lean ====
section
/-!
DEFINITION. The host register space as an address map (spec 20_memory.md R60 to R69, 00_scope.md R12): `HostRead` and `HostWrite`
written from the table of R66, address by address, independently of the decoder. Machine/Transition.lean uses them; that the
operations of `exec` agree with them is for the provers.
-/

namespace Sys2Proof.Machine

/-- Byte `a - b` of a register value based at address `b` (R69). -/
def byteAt (value b a : Nat) : Byte := BitVec.ofNat 8 (value / 256 ^ (a - b))

/-- `HostRead(a)` (R69): the byte the table of R66 gives for `a`. -/
def hostRead (s : State) (addr : Addr) : Byte :=
  let a := addr.toNat
  if a = 0x00 then s.status
  else if a = 0x01 then 0x00
  else if a ≤ 0x03 then byteAt s.tbdiv.toNat 0x02 a
  else if a ≤ 0x07 then byteAt s.clkrate.toNat 0x04 a
  else if a ≤ 0x0B then byteAt s.tgtrate.toNat 0x08 a
  else if a ≤ 0x0F then byteAt s.stephz.toNat 0x0C a
  else if a ≤ 0x13 then byteAt s.freq0.toNat 0x10 a
  else if a ≤ 0x17 then byteAt s.freq1.toNat 0x14 a
  else if a ≤ 0x1B then byteAt s.phinc0.toNat 0x18 a
  else if a ≤ 0x1F then byteAt s.phinc1.toNat 0x1C a
  else if a ≤ 0x23 then byteAt s.phacc0.toNat 0x20 a
  else if a ≤ 0x27 then byteAt s.phacc1.toNat 0x24 a
  else if a ≤ 0x29 then byteAt s.tickcnt.toNat 0x28 a
  else if a = 0x2A then s.tstart
  else if a = 0x2B then s.tstop
  else if a = 0x2C then s.duty0
  else if a = 0x2D then s.duty1
  else if a = 0x2E then s.tbcnt
  else if a = 0x30 then s.tblidx
  else if a = 0x31 then s.cfg.sample s.tblidx
  else 0x00

/-- The value of a 32-bit register based at `b` after the byte at address `a` becomes `d`; the other bytes stay (R69, R77). -/
def withByteAt (value : Word) (b a : Nat) (d : Byte) : Word :=
  BitVec.ofNat 32 (value.toNat - (byteAt value.toNat b a).toNat * 256 ^ (a - b) + d.toNat * 256 ^ (a - b))

/-- `raise Refused(reason)` as an assignment to `n` (60_exceptions.md R301). -/
def refuseIn (why : RefusedReason) (n : State) : State := { n with refused := true, refusedWhy := some why }

/-- The command `d` of the table of 30_encoding.md R95: operands read from `s`, assignments made to `n`. -/
def performCommand (s : State) (d : Byte) (n : State) : State :=
  let code := d.toNat
  if code = 0 then n
  else if code = 1 then
    if s.ie then refuseIn .locked n
    else if s.clkrate = 0 ∨ s.tgtrate = 0 then { n with cfgErr := true, cfgValid := false }
    else
      { n with
        tbdiv := BitVec.ofNat 16 (selectDiv s.cfg s.clkrate.toNat s.tgtrate.toNat)
        stephz := BitVec.ofNat 32 (2 ^ 32 / s.tgtrate.toNat)
        pre := 0
        tbcnt := 0
        cfgValid := true
        cfgErr := false }
  else if code = 2 then
    if s.cfgValid then { n with ie := true } else refuseIn .notConfigured n
  else if code = 3 then { n with ie := false, pend := false }
  else if code = 4 then
    if s.ie then refuseIn .locked n
    else if !s.cfgValid then refuseIn .notConfigured n
    else { n with phinc0 := BitVec.ofNat 32 (s.freq0.toNat * s.stephz.toNat) }
  else if code = 5 then
    if s.ie then refuseIn .locked n
    else if !s.cfgValid then refuseIn .notConfigured n
    else { n with phinc1 := BitVec.ofNat 32 (s.freq1.toNat * s.stephz.toNat) }
  else if code = 6 then { n with tickcnt := 0 }
  else refuseIn .reservedCmd n

/-- `HostWrite(a, d)` (R69, the access column of R66): operands read from `s`, assignments made to `n`. -/
def hostWrite (s : State) (addr : Addr) (d : Byte) (n : State) : State :=
  let a := addr.toNat
  if a = 0x01 then performCommand s d n
  else if 0x04 ≤ a ∧ a ≤ 0x07 then { n with clkrate := withByteAt s.clkrate 0x04 a d }
  else if 0x08 ≤ a ∧ a ≤ 0x0B then { n with tgtrate := withByteAt s.tgtrate 0x08 a d }
  else if 0x10 ≤ a ∧ a ≤ 0x13 then { n with freq0 := withByteAt s.freq0 0x10 a d }
  else if 0x14 ≤ a ∧ a ≤ 0x17 then { n with freq1 := withByteAt s.freq1 0x14 a d }
  else if 0x18 ≤ a ∧ a ≤ 0x1B then
    if s.ie then refuseIn .locked n else { n with phinc0 := withByteAt s.phinc0 0x18 a d }
  else if 0x1C ≤ a ∧ a ≤ 0x1F then
    if s.ie then refuseIn .locked n else { n with phinc1 := withByteAt s.phinc1 0x1C a d }
  else if a = 0x30 then { n with tblidx := d }
  else if a = 0x2F ∨ 0x32 ≤ a then refuseIn .reservedAddr n
  else refuseIn .readOnly n

end Sys2Proof.Machine
end

