-- ==== Sys2Proof/Machine/Transition.lean ====
section
/-!
DEFINITION. The whole edge as one function, line by line from spec 70_reset_and_hazards.md R351, with simultaneous assignments:
every right side reads the pre-edge state `s`, every assignment goes to `n`. The step does not use it: it is the second
definition to which the step is compared. And the tick as one operation (41_dds_engine.md R157).
-/

namespace Sys2Proof.Machine

/-- `outputs(s, in)` of R351, R106. -/
def outputs (s : State) (inp : PortIn) : PortOut :=
  let ready : Bool := !inp.rst && decide (s.eng = Eng.idle) && !s.pend
  { hReady := ready
    hRdata := if inp.hValid && !inp.hWrite && ready then hostRead s inp.hAddr else 0x00
    pwmOut :=
      (if s.pwmcnt < s.dutyact1 then 1#1 else 0#1) ++ (if s.pwmcnt < s.dutyact0 then 1#1 else 0#1) }

/-- Step 1 of R351, `PWM.STEP`. -/
def edgePwm (s n : State) : State :=
  let n := { n with pwmcnt := BitVec.ofNat 8 ((s.pwmcnt.toNat + 1) % 256) }
  if s.pwmcnt.toNat = 255 then { n with dutyact0 := s.duty0, dutyact1 := s.duty1 } else n

/-- Step 2 of R351, `TB.COUNT`, with `ovf`. -/
def edgeTimebase (s n : State) : State × Bool :=
  if (s.pre.toNat : Int) = (s.tbdiv.toNat : Int) - 1 then
    ({ n with pre := 0, tbcnt := BitVec.ofNat 8 ((s.tbcnt.toNat + 1) % 256) }, decide (s.tbcnt.toNat = 255))
  else ({ n with pre := BitVec.ofNat 10 (s.pre.toNat + 1) }, false)

/-- Step 3 of R351, the engine. No line of R351 has the codes 6 and 7: they assign nothing here. -/
def edgeEngine (s n : State) (dispatch : Bool) : State :=
  match s.eng.toNat with
  | 0 => if dispatch then { n with eng := Eng.t0 } else n
  | 1 => { n with tstart := s.tbcnt, eng := Eng.ch0 }
  | 2 =>
    let a := (s.phacc0.toNat + s.phinc0.toNat) % 2 ^ 32
    { n with
      phacc0 := BitVec.ofNat 32 a
      duty0 := s.cfg.wavetable.getD (a / 2 ^ 24) 0
      eng := Eng.ch1 }
  | 3 =>
    let a := (s.phacc1.toNat + s.phinc1.toNat) % 2 ^ 32
    { n with
      phacc1 := BitVec.ofNat 32 a
      duty1 := s.cfg.wavetable.getD (a / 2 ^ 24) 0
      eng := Eng.t1 }
  | 4 => { n with tstop := s.tbcnt, eng := Eng.cnt }
  | 5 => { n with tickcnt := BitVec.ofNat 16 ((s.tickcnt.toNat + 1) % 2 ^ 16), eng := Eng.idle }
  | _ => n

/-- `next(s, in)` of R351 on the registers. -/
def transition (s : State) (inp : PortIn) : State :=
  if inp.rst then State.resetWith s.cfg s.input s.out
  else
    let n := edgePwm s s
    let (n, ovf) := edgeTimebase s n
    let dispatch : Bool := decide (s.eng = Eng.idle) && s.pend
    let n := edgeEngine s n dispatch
    let n := { n with pend := (s.pend && !dispatch) || (ovf && s.ie) }
    if inp.hValid && decide (s.eng = Eng.idle) && !s.pend && inp.hWrite then hostWrite s inp.hAddr inp.hWdata n
    else n

/-- A whole cycle by R351: the transition of the registers, the outputs of the cycle, and its inputs taken. -/
def referenceCycle (s : State) : State :=
  { transition s s.presented with input := s.input.tail, out := outputs s s.presented }

/-- `TICK(t0, t1)`, one handler run as one operation on the engine's registers (R157). -/
def tick (t0 t1 : Byte) (s : State) : State :=
  { s with
    tstart := t0
    phacc0 := s.phacc0 + s.phinc0
    duty0 := sampleOf s.cfg (s.phacc0 + s.phinc0)
    phacc1 := s.phacc1 + s.phinc1
    duty1 := sampleOf s.cfg (s.phacc1 + s.phinc1)
    tstop := t1
    tickcnt := s.tickcnt + 1 }

end Sys2Proof.Machine
end

