-- ==== Sys2Proof/Safety.lean ====
section
/-!
DEFINITION. What counts as a sound state: the invariants of spec 10_state.md R49, and the alignment of the handler run with the
timebase that keeps an overrun from happening (60_exceptions.md R311, 41_dds_engine.md R169).
-/

namespace Sys2Proof.Machine

/-- A duty value that the core can put out: 0 or a table sample (R49 (g)). -/
abbrev dutyLegal (c : Config) (d : Byte) : Prop := d = 0 ∨ d ∈ c.wavetable

/-- The invariants of R49 (a) to (g), in a core whose configuration is legal (00_scope.md R8). -/
abbrev State.Sound (s : State) : Prop :=
  s.cfg.legal = true
    ∧ s.eng.toNat ≤ 5
    ∧ (s.pend = true → s.ie = true)
    ∧ (s.eng ≠ Eng.idle → s.ie = true)
    ∧ ¬ (s.cfgValid = true ∧ s.cfgErr = true)
    ∧ (s.ie = true → s.cfgValid = true)
    ∧ (s.tbdiv.toNat ∈ s.cfg.divisors ∧ s.pre.toNat < s.tbdiv.toNat)
    ∧ (dutyLegal s.cfg s.duty0 ∧ dutyLegal s.cfg s.duty1)
    ∧ (dutyLegal s.cfg s.dutyact0 ∧ dutyLegal s.cfg s.dutyact1)

/-- The position of the cycle in the tick period, `p = TBCNT * TBDIV + PRE` (70_reset_and_hazards.md R362). -/
def State.position (s : State) : Nat := s.tbcnt.toNat * s.tbdiv.toNat + s.pre.toNat

/-- The tick period `256 * TBDIV` in cycles (40_timebase.md R123). -/
def State.tickPeriod (s : State) : Nat := tbModulus * s.tbdiv.toNat

/-- The handler run stands where R169 puts it: a tick is pending only in the first cycle of a period with the engine idle, and the
engine is at step `n` only in cycle `n` of it, with no tick pending. -/
abbrev State.OnTime (s : State) : Prop :=
  (s.pend = true → s.eng = Eng.idle ∧ s.position = 0)
    ∧ (s.eng ≠ Eng.idle → s.pend = false ∧ s.position = s.eng.toNat)

/-- An overrun on the coming edge: a tick is raised while one is pending or a handler run is in progress (60_exceptions.md R309,
R310). -/
def State.overrun (s : State) : Bool := s.overflows && s.ie && (s.pend || decide (s.eng ≠ Eng.idle))

/-- `n` steps, stopping at the first that gives no next state. -/
def runSteps : Nat → State → Result
  | 0, s => .next s
  | n + 1, s => andThen (step s) (runSteps n)

/-- The next `n` cycles are without reset. -/
abbrev State.noResetFor (s : State) (n : Nat) : Prop := ∀ p ∈ s.input.take n, p.rst = false

/-- The inputs present a write of `d` at address `a`. -/
abbrev PortIn.presentsWrite (p : PortIn) (a : Addr) (d : Byte) : Prop :=
  p.hValid = true ∧ p.hWrite = true ∧ p.hAddr = a ∧ p.hWdata = d

/-- The next `n` cycles are without reset, and no `CONFIGURE` (code 0x01 at address 0x01) is presented in them. -/
abbrev State.noConfigureFor (s : State) (n : Nat) : Prop :=
  ∀ p ∈ s.input.take n, p.rst = false ∧ ¬ p.presentsWrite 0x01 0x01

/-- The next `n` cycles are without reset and without a write: the host reads, or presents nothing. -/
abbrev State.quietFor (s : State) (n : Nat) : Prop := ∀ p ∈ s.input.take n, p.rst = false ∧ p.hWrite = false

/-- The transaction of the coming cycle is performed and is a write of `d` at address `a`. -/
abbrev State.performsWrite (s : State) (a : Addr) (d : Byte) : Prop :=
  performs s s.presented = true ∧ s.presented.presentsWrite a d

/-- A `CONFIGURE` with both rates non-zero is performed in the coming cycle, disarmed (40_timebase.md R125). -/
abbrev State.reconfigures (s : State) : Prop :=
  s.performsWrite 0x01 0x01 ∧ s.ie = false ∧ s.clkrate ≠ 0 ∧ s.tgtrate ≠ 0

/-- The achieved tick rate `CLKRATE / (256 * TBDIV)` as an exact rational (40_timebase.md R128). -/
def State.achievedRate (s : State) : ℚ := (s.clkrate.toNat : ℚ) / ((tbModulus * s.tbdiv.toNat : Nat) : ℚ)

/-- The refusals of the closed list of 60_exceptions.md R301, read off its table: the reason for which an operation is refused in
a state, if it is. -/
def refusalOf (i : Instr) (s : State) : Option RefusedReason :=
  match i with
  | .cmdConfigure | .wrPhinc0 _ _ | .wrPhinc1 _ _ => if s.ie then some .locked else none
  | .cmdSetfreq0 | .cmdSetfreq1 =>
    if s.ie then some .locked else if s.cfgValid then none else some .notConfigured
  | .cmdEnable => if s.cfgValid then none else some .notConfigured
  | .wrRo _ _ => some .readOnly
  | .wrRsvd _ _ => some .reservedAddr
  | .cmdRsvd _ => some .reservedCmd
  | .rdStatus | .rdCmd | .rdTbdiv _ | .rdClkrate _ | .rdTgtrate _ | .rdStephz _ | .rdFreq0 _ | .rdFreq1 _
  | .rdPhinc0 _ | .rdPhinc1 _ | .rdPhacc0 _ | .rdPhacc1 _ | .rdTickcnt _ | .rdTstart | .rdTstop | .rdDuty0
  | .rdDuty1 | .rdTbcnt | .rdTblidx | .rdTbldata | .rdRsvd _
  | .wrClkrate _ _ | .wrTgtrate _ _ | .wrFreq0 _ _ | .wrFreq1 _ _ | .wrTblidx _
  | .cmdNop | .cmdDisable | .cmdClrtick
  | .eDispatch | .eT0 | .eCh0 | .eCh1 | .eT1 | .eCnt | .tbCount | .pwmStep => none

end Sys2Proof.Machine
end

