-- ==== Sys2Proof/Certificates/Slice0/Obligations.lean ====
section
/-!
DEFINITION. The statements for the provers. Each docstring names the rule of spec/ that the statement formalises, or says that it is
derived and from what. `out`, `input`, `cfg` and `refusedWhy` are the model's own fields (log entries 1 to 4).
-/

open Sys2Proof Sys2Proof.Machine

/-! ## Encoding -/

/-- Words written out from the encodings of the rules (R231, R250, R243, R256, R262, R265, R269, R125, R270, R153, R264) decode to the
operations they stand for. A sanity statement. -/
def Obligations.SpecWordsDecode : Prop :=
  decodeHost 0x00FF = .rdStatus ∧ decodeHost 0x3100 = .rdTbldata ∧ decodeHost 0x2900 = .rdTickcnt 1
    ∧ decodeHost 0x4524 = .wrClkrate 1 0x24 ∧ decodeHost 0x5B40 = .wrPhinc0 3 0x40
    ∧ decodeHost 0x7FFF = .wrRsvd 0x3F 0xFF ∧ decodeHost 0x4180 = .cmdRsvd 0x80
    ∧ decodeHost 0x4101 = .cmdConfigure ∧ decodeHost 0x4104 = .cmdSetfreq0
    ∧ decodeTableWord 8 2 = some .eCh0 ∧ decodeTableWord 16 0x6E00 = some (.wrRo 0x2E 0x00)

/-- Decode and encode agree: every well-formed operation that has selecting bits is read back from its encoding, as a selector and
as bytes. Derived from R93, R94, R98, R104 (the two operations of R105 have no selecting bits: EdgeOperationsHaveNoWord). -/
def Obligations.DecodeInvertsEncode : Prop :=
  ∀ i : Instr, i.wellFormed = true → i.format ≠ .edge →
    decode (encode i) = .ok i ∧ decodeBytes (encode i).toBytes = .ok i

/-- Every one of the 2^15 words has a meaning: it decodes to a well-formed operation, which completes in every state; and the word is
the encoding of that operation, but for the ignored data of a read. Derived from R97. -/
def Obligations.EveryHostWordHasAMeaning : Prop :=
  ∀ w : TxWord,
    (decodeHost w).wellFormed = true
      ∧ encode (decodeHost w) = .host (if w.isWrite then w else TxWord.ofFields false w.addr 0)
      ∧ ∀ s : State, ∃ t, exec (decodeHost w) s = .next t

/-- The rows of formats RD, WR and CMD of the opcode table are pairwise disjoint and cover all words, and the one row a word selects
has the mnemonic of the decoded operation. Derived from INDEX.md, keys of the opcode table, and R104. -/
def Obligations.OpcodeTableSelectsTheDecodedRow : Prop :=
  ∀ w : TxWord, (hostRows.filter (fun r => r.selectedBy w)).map (fun r => r.mnemonic) = [(decodeHost w).mnemonic]

/-- R98: the operation that each engine code selects; code 0 without a pending tick does nothing; 6 and 7 select none. -/
def Obligations.EngineCodesSelectTheSteps : Prop :=
  decodeEng 0 = .ok .eDispatch ∧ decodeEng 1 = .ok .eT0 ∧ decodeEng 2 = .ok .eCh0
    ∧ decodeEng 3 = .ok .eCh1 ∧ decodeEng 4 = .ok .eT1 ∧ decodeEng 5 = .ok .eCnt
    ∧ (∀ s : State, s.pend = false → exec .eDispatch s = .next s)
    ∧ (∀ c : EngCode, 5 < c.toNat → decodeEng c = .error (.engCodeUnassigned c))

/-- The two operations of format EDGE have no selecting bits, and the empty selector selects nothing. The second half is the model's
choice (log entry 7). Derived from R105. -/
def Obligations.EdgeOperationsHaveNoWord : Prop :=
  (∀ i : Instr, i.format = .edge ↔ (encode i).toBytes = [])
    ∧ decodeBytes [] = .error .edgeSelectsNothing

/-! ## What each operation does -/

/-- The reads of the multi-byte registers: with any data bits, the word of the rule selects the read; it delivers byte `k` of the
register and changes nothing else. States R234 to R238 and R240; the same form for R233, R239, R241, R242, R243. -/
def Obligations.ReadsOfWideRegisters : Prop :=
  ∀ (s : State) (x : Byte),
    (∀ k : BitVec 2,
      (decodeHost (TxWord.ofFields false (0b0001#4 ++ k) x) = .rdClkrate k
        ∧ exec (.rdClkrate k) s = .next { s with out := { s.out with hRdata := s.clkrate.extractLsb' (8 * k.toNat) 8 } })
      ∧ (decodeHost (TxWord.ofFields false (0b0010#4 ++ k) x) = .rdTgtrate k
        ∧ exec (.rdTgtrate k) s = .next { s with out := { s.out with hRdata := s.tgtrate.extractLsb' (8 * k.toNat) 8 } })
      ∧ (decodeHost (TxWord.ofFields false (0b0011#4 ++ k) x) = .rdStephz k
        ∧ exec (.rdStephz k) s = .next { s with out := { s.out with hRdata := s.stephz.extractLsb' (8 * k.toNat) 8 } })
      ∧ (decodeHost (TxWord.ofFields false (0b0100#4 ++ k) x) = .rdFreq0 k
        ∧ exec (.rdFreq0 k) s = .next { s with out := { s.out with hRdata := s.freq0.extractLsb' (8 * k.toNat) 8 } })
      ∧ (decodeHost (TxWord.ofFields false (0b0101#4 ++ k) x) = .rdFreq1 k
        ∧ exec (.rdFreq1 k) s = .next { s with out := { s.out with hRdata := s.freq1.extractLsb' (8 * k.toNat) 8 } })
      ∧ (decodeHost (TxWord.ofFields false (0b0110#4 ++ k) x) = .rdPhinc0 k
        ∧ exec (.rdPhinc0 k) s = .next { s with out := { s.out with hRdata := s.phinc0.extractLsb' (8 * k.toNat) 8 } })
      ∧ (decodeHost (TxWord.ofFields false (0b0111#4 ++ k) x) = .rdPhinc1 k
        ∧ exec (.rdPhinc1 k) s = .next { s with out := { s.out with hRdata := s.phinc1.extractLsb' (8 * k.toNat) 8 } })
      ∧ (decodeHost (TxWord.ofFields false (0b1000#4 ++ k) x) = .rdPhacc0 k
        ∧ exec (.rdPhacc0 k) s = .next { s with out := { s.out with hRdata := s.phacc0.extractLsb' (8 * k.toNat) 8 } })
      ∧ (decodeHost (TxWord.ofFields false (0b1001#4 ++ k) x) = .rdPhacc1 k
        ∧ exec (.rdPhacc1 k) s = .next { s with out := { s.out with hRdata := s.phacc1.extractLsb' (8 * k.toNat) 8 } }))
    ∧ (∀ k : BitVec 1,
      (decodeHost (TxWord.ofFields false (0b00001#5 ++ k) x) = .rdTbdiv k
        ∧ exec (.rdTbdiv k) s = .next { s with out := { s.out with hRdata := s.tbdiv.extractLsb' (8 * k.toNat) 8 } })
      ∧ (decodeHost (TxWord.ofFields false (0b10100#5 ++ k) x) = .rdTickcnt k
        ∧ exec (.rdTickcnt k) s = .next { s with out := { s.out with hRdata := s.tickcnt.extractLsb' (8 * k.toNat) 8 } }))

/-- The reads of one-byte registers, of the views and of the reserved addresses: the word of the rule, with any data bits, selects
the read; it delivers the byte and changes nothing else. States R231, R232, R249, R250, R251; the same form for R244 to R248. -/
def Obligations.ReadsOfByteRegisters : Prop :=
  ∀ (s : State) (x : Byte),
    (decodeHost (TxWord.ofFields false 0x00 x) = .rdStatus
        ∧ ∃ t, exec .rdStatus s = .next t ∧ t = { s with out := { s.out with hRdata := t.out.hRdata } }
          ∧ t.out.hRdata.toNat = s.ie.toNat + 2 * s.cfgValid.toNat + 4 * s.cfgErr.toNat + 8 * s.refused.toNat)
      ∧ (decodeHost (TxWord.ofFields false 0x01 x) = .rdCmd
        ∧ exec .rdCmd s = .next { s with out := { s.out with hRdata := 0x00 } })
      ∧ (decodeHost (TxWord.ofFields false 0x2A x) = .rdTstart
        ∧ exec .rdTstart s = .next { s with out := { s.out with hRdata := s.tstart } })
      ∧ (decodeHost (TxWord.ofFields false 0x2B x) = .rdTstop
        ∧ exec .rdTstop s = .next { s with out := { s.out with hRdata := s.tstop } })
      ∧ (decodeHost (TxWord.ofFields false 0x2C x) = .rdDuty0
        ∧ exec .rdDuty0 s = .next { s with out := { s.out with hRdata := s.duty0 } })
      ∧ (decodeHost (TxWord.ofFields false 0x2D x) = .rdDuty1
        ∧ exec .rdDuty1 s = .next { s with out := { s.out with hRdata := s.duty1 } })
      ∧ (decodeHost (TxWord.ofFields false 0x2E x) = .rdTbcnt
        ∧ exec .rdTbcnt s = .next { s with out := { s.out with hRdata := s.tbcnt } })
      ∧ (decodeHost (TxWord.ofFields false 0x30 x) = .rdTblidx
        ∧ exec .rdTblidx s = .next { s with out := { s.out with hRdata := s.tblidx } })
      ∧ (decodeHost (TxWord.ofFields false 0x31 x) = .rdTbldata
        ∧ exec .rdTbldata s
            = .next { s with out := { s.out with hRdata := s.cfg.wavetable.getD s.tblidx.toNat 0 } })
      ∧ (∀ a : Addr, a = 0x2F ∨ 0x32 ≤ a.toNat →
          decodeHost (TxWord.ofFields false a x) = .rdRsvd a
            ∧ exec (.rdRsvd a) s = .next { s with out := { s.out with hRdata := 0x00 } })

/-- R69: the operations that the opcode table selects are the primitives of the address map: a read at `a` delivers `HostRead(a)`,
a write of `d` at `a` has the effect of `HostWrite(a, d)`. -/
def Obligations.OperationsAreTheAddressMap : Prop :=
  ∀ (a : Addr) (d : Byte) (s : State),
    exec (decodeHost (TxWord.ofFields false a d)) s = .next { s with out := { s.out with hRdata := hostRead s a } }
      ∧ exec (decodeHost (TxWord.ofFields true a d)) s = .next (hostWrite s a d s)

/-- R256 to R259: a write of `d` to byte `k` of `CLKRATE`, `TGTRATE` or a `FREQ` register makes that byte `d`, leaves the other
three, leaves every other register, and every other host address reads as before; armed or not. -/
def Obligations.WritesOfRatesAndFrequencies : Prop :=
  ∀ (k : BitVec 2) (d : Byte) (s : State),
    (decodeHost (TxWord.ofFields true (0b0001#4 ++ k) d) = .wrClkrate k d
      ∧ ∃ t, exec (.wrClkrate k d) s = .next t ∧ t = { s with clkrate := t.clkrate }
        ∧ (∀ j : BitVec 2, t.clkrate.extractLsb' (8 * j.toNat) 8
            = if j = k then d else s.clkrate.extractLsb' (8 * j.toNat) 8)
        ∧ ∀ b : Addr, b ≠ 0b0001#4 ++ k → hostRead t b = hostRead s b)
    ∧ (decodeHost (TxWord.ofFields true (0b0010#4 ++ k) d) = .wrTgtrate k d
      ∧ ∃ t, exec (.wrTgtrate k d) s = .next t ∧ t = { s with tgtrate := t.tgtrate }
        ∧ (∀ j : BitVec 2, t.tgtrate.extractLsb' (8 * j.toNat) 8
            = if j = k then d else s.tgtrate.extractLsb' (8 * j.toNat) 8)
        ∧ ∀ b : Addr, b ≠ 0b0010#4 ++ k → hostRead t b = hostRead s b)
    ∧ (decodeHost (TxWord.ofFields true (0b0100#4 ++ k) d) = .wrFreq0 k d
      ∧ ∃ t, exec (.wrFreq0 k d) s = .next t ∧ t = { s with freq0 := t.freq0 }
        ∧ (∀ j : BitVec 2, t.freq0.extractLsb' (8 * j.toNat) 8
            = if j = k then d else s.freq0.extractLsb' (8 * j.toNat) 8)
        ∧ ∀ b : Addr, b ≠ 0b0100#4 ++ k → hostRead t b = hostRead s b)
    ∧ (decodeHost (TxWord.ofFields true (0b0101#4 ++ k) d) = .wrFreq1 k d
      ∧ ∃ t, exec (.wrFreq1 k d) s = .next t ∧ t = { s with freq1 := t.freq1 }
        ∧ (∀ j : BitVec 2, t.freq1.extractLsb' (8 * j.toNat) 8
            = if j = k then d else s.freq1.extractLsb' (8 * j.toNat) 8)
        ∧ ∀ b : Addr, b ≠ 0b0101#4 ++ k → hostRead t b = hostRead s b)

/-- R262, R263: a `PHINC` byte write is refused with `LOCKED` while armed, with `REFUSED` as its whole effect (and the ghost reason,
log entry 4); disarmed it makes byte `k` `d` and leaves the rest of the register and every other one. -/
def Obligations.WritesOfIncrements : Prop :=
  ∀ (k : BitVec 2) (d : Byte) (s : State),
    decodeHost (TxWord.ofFields true (0b0110#4 ++ k) d) = .wrPhinc0 k d
    ∧ decodeHost (TxWord.ofFields true (0b0111#4 ++ k) d) = .wrPhinc1 k d
    ∧ (s.ie = true →
        exec (.wrPhinc0 k d) s = .next { s with refused := true, refusedWhy := some .locked }
          ∧ exec (.wrPhinc1 k d) s = .next { s with refused := true, refusedWhy := some .locked })
    ∧ (s.ie = false →
        (∃ t, exec (.wrPhinc0 k d) s = .next t ∧ t = { s with phinc0 := t.phinc0 }
          ∧ (∀ j : BitVec 2, t.phinc0.extractLsb' (8 * j.toNat) 8
              = if j = k then d else s.phinc0.extractLsb' (8 * j.toNat) 8)
          ∧ ∀ b : Addr, b ≠ 0b0110#4 ++ k → hostRead t b = hostRead s b)
        ∧ (∃ t, exec (.wrPhinc1 k d) s = .next t ∧ t = { s with phinc1 := t.phinc1 }
          ∧ (∀ j : BitVec 2, t.phinc1.extractLsb' (8 * j.toNat) 8
              = if j = k then d else s.phinc1.extractLsb' (8 * j.toNat) 8)
          ∧ ∀ b : Addr, b ≠ 0b0111#4 ++ k → hostRead t b = hostRead s b))

/-- R260: `WR.TBLIDX` sets the index and nothing else. -/
def Obligations.WriteOfTableIndex : Prop :=
  ∀ (d : Byte) (s : State),
    decodeHost (TxWord.ofFields true 0x30 d) = .wrTblidx d ∧ exec (.wrTblidx d) s = .next { s with tblidx := d }

/-- R264, R265, R67: the words of a write to a read-only or a reserved address select the refused writes, which set `REFUSED`
(and the ghost reason, log entry 4) and change nothing else; a reserved address reads 0x00. -/
def Obligations.RefusedWrites : Prop :=
  ∀ (a : Addr) (d : Byte) (s : State),
    (a = 0x00 ∨ a = 0x02 ∨ a = 0x03 ∨ (0x0C ≤ a.toNat ∧ a.toNat ≤ 0x0F) ∨ (0x20 ≤ a.toNat ∧ a.toNat ≤ 0x2E)
        ∨ a = 0x31 →
      decodeHost (TxWord.ofFields true a d) = .wrRo a d
        ∧ exec (.wrRo a d) s = .next { s with refused := true, refusedWhy := some .readOnly })
    ∧ (a = 0x2F ∨ 0x32 ≤ a.toNat →
      decodeHost (TxWord.ofFields true a d) = .wrRsvd a d
        ∧ exec (.wrRsvd a d) s = .next { s with refused := true, refusedWhy := some .reservedAddr }
        ∧ exec (decodeHost (TxWord.ofFields false a d)) s = .next { s with out := { s.out with hRdata := 0x00 } })

/-- The command codes (R95). States R96 and R269: every code from 0x07 on is reserved and refused with no other effect. -/
def Obligations.CommandCodes : Prop :=
  decodeHost (TxWord.ofFields true 0x01 0x00) = .cmdNop
    ∧ decodeHost (TxWord.ofFields true 0x01 0x01) = .cmdConfigure
    ∧ decodeHost (TxWord.ofFields true 0x01 0x02) = .cmdEnable
    ∧ decodeHost (TxWord.ofFields true 0x01 0x03) = .cmdDisable
    ∧ decodeHost (TxWord.ofFields true 0x01 0x04) = .cmdSetfreq0
    ∧ decodeHost (TxWord.ofFields true 0x01 0x05) = .cmdSetfreq1
    ∧ decodeHost (TxWord.ofFields true 0x01 0x06) = .cmdClrtick
    ∧ ∀ (d : Byte) (s : State), 0x07 ≤ d.toNat →
        decodeHost (TxWord.ofFields true 0x01 d) = .cmdRsvd d
          ∧ exec (.cmdRsvd d) s = .next { s with refused := true, refusedWhy := some .reservedCmd }

/-- R125: the three branches of `CONFIGURE`, each with its whole effect. -/
def Obligations.ConfigureEffect : Prop :=
  decodeHost (TxWord.ofFields true 0x01 0x01) = .cmdConfigure
    ∧ ∀ s : State,
      (s.ie = true → exec .cmdConfigure s = .next { s with refused := true, refusedWhy := some .locked })
      ∧ (s.ie = false → s.clkrate = 0 ∨ s.tgtrate = 0 →
          exec .cmdConfigure s = .next { s with cfgErr := true, cfgValid := false })
      ∧ (s.ie = false → s.clkrate ≠ 0 → s.tgtrate ≠ 0 →
          exec .cmdConfigure s = .next { s with
            tbdiv := BitVec.ofNat 16 (selectDiv s.cfg s.clkrate.toNat s.tgtrate.toNat)
            stephz := BitVec.ofNat 32 (2 ^ 32 / s.tgtrate.toNat % 2 ^ 32)
            pre := 0
            tbcnt := 0
            cfgValid := true
            cfgErr := false })

/-- `ENABLE` and `DISABLE` with their whole effect. Derived from the pseudocode of R126 and R127. -/
def Obligations.EnableAndDisableEffect : Prop :=
  ∀ s : State,
    (s.cfgValid = false → exec .cmdEnable s = .next { s with refused := true, refusedWhy := some .notConfigured })
      ∧ (s.cfgValid = true → exec .cmdEnable s = .next { s with ie := true })
      ∧ exec .cmdDisable s = .next { s with ie := false, pend := false }

/-- R270, R271: `SETFREQ`, refused while armed, refused when not configured, otherwise the low 32 bits of the product. -/
def Obligations.SetFrequencyEffect : Prop :=
  decodeHost (TxWord.ofFields true 0x01 0x04) = .cmdSetfreq0
    ∧ decodeHost (TxWord.ofFields true 0x01 0x05) = .cmdSetfreq1
    ∧ ∀ s : State,
      (s.ie = true →
        exec .cmdSetfreq0 s = .next { s with refused := true, refusedWhy := some .locked }
          ∧ exec .cmdSetfreq1 s = .next { s with refused := true, refusedWhy := some .locked })
      ∧ (s.ie = false → s.cfgValid = false →
        exec .cmdSetfreq0 s = .next { s with refused := true, refusedWhy := some .notConfigured }
          ∧ exec .cmdSetfreq1 s = .next { s with refused := true, refusedWhy := some .notConfigured })
      ∧ (s.ie = false → s.cfgValid = true →
        exec .cmdSetfreq0 s
            = .next { s with phinc0 := BitVec.ofNat 32 (s.freq0.toNat * s.stephz.toNat % 2 ^ 32) }
          ∧ exec .cmdSetfreq1 s
            = .next { s with phinc1 := BitVec.ofNat 32 (s.freq1.toNat * s.stephz.toNat % 2 ^ 32) })

/-- `CLRTICK` and `NOP` with their whole effect, armed or not. Derived from the pseudocode of R268 and R272. -/
def Obligations.ClearTickAndNopEffect : Prop :=
  ∀ s : State, exec .cmdClrtick s = .next { s with tickcnt := 0 } ∧ exec .cmdNop s = .next s

/-- The engine operations with their whole effect. States R153 and R154; the pseudocode of R151, R152, R155, R156. -/
def Obligations.EngineOperationsEffect : Prop :=
  ∀ s : State,
    (s.eng = Eng.idle → s.pend = true → exec .eDispatch s = .next { s with eng := Eng.t0, pend := false })
      ∧ exec .eT0 s = .next { s with tstart := s.tbcnt, eng := Eng.ch0 }
      ∧ exec .eCh0 s = .next { s with
          phacc0 := BitVec.ofNat 32 ((s.phacc0.toNat + s.phinc0.toNat) % 2 ^ 32)
          duty0 := s.cfg.wavetable.getD ((s.phacc0.toNat + s.phinc0.toNat) % 2 ^ 32 / 2 ^ 24) 0
          eng := Eng.ch1 }
      ∧ exec .eCh1 s = .next { s with
          phacc1 := BitVec.ofNat 32 ((s.phacc1.toNat + s.phinc1.toNat) % 2 ^ 32)
          duty1 := s.cfg.wavetable.getD ((s.phacc1.toNat + s.phinc1.toNat) % 2 ^ 32 / 2 ^ 24) 0
          eng := Eng.t1 }
      ∧ exec .eT1 s = .next { s with tstop := s.tbcnt, eng := Eng.cnt }
      ∧ exec .eCnt s = .next { s with
          tickcnt := BitVec.ofNat 16 ((s.tickcnt.toNat + 1) % 2 ^ 16)
          eng := Eng.idle }

/-- The two operations of every edge with their whole effect, for a prescaler count below the divisor. Derived from the pseudocode of
R121 and R211 (the latch of R122 is the step's). -/
def Obligations.EveryEdgeOperationsEffect : Prop :=
  ∀ s : State,
    (s.pre.toNat + 1 = s.tbdiv.toNat →
        exec .tbCount s = .next { s with pre := 0, tbcnt := BitVec.ofNat 8 ((s.tbcnt.toNat + 1) % 256) })
      ∧ (s.pre.toNat + 1 < s.tbdiv.toNat → s.tbdiv.toNat ≤ 1024 →
        ∃ t, exec .tbCount s = .next t ∧ t = { s with pre := t.pre } ∧ t.pre.toNat = s.pre.toNat + 1)
      ∧ (s.pwmcnt = 255 →
        exec .pwmStep s = .next { s with pwmcnt := 0, dutyact0 := s.duty0, dutyact1 := s.duty1 })
      ∧ (s.pwmcnt ≠ 255 → exec .pwmStep s = .next { s with pwmcnt := BitVec.ofNat 8 (s.pwmcnt.toNat + 1) })

/-! ## The step -/

/-- A step runs the selected operations: a performed read runs on the state of its cycle, before the edge; a performed write or
command runs last; the engine operation that `ENG` selects runs between the carrier's and the timebase's; the latch uses the
overflow of the pre-edge state. Derived from R91, R92, R230, R306 and R351 (the order is the model's: log entry 6). -/
def Obligations.StepRunsTheSelectedOperations : Prop :=
  ∀ (s : State) (i e : Instr),
    s.presented.rst = false →
    decodeEng s.eng = .ok e →
    (s.presented.hValid = true → s.presented.hWrite = false → s.eng = Eng.idle → s.pend = false →
        decodeHost s.presented.word = i →
        step s = andThen (exec i s.openCycle) everyEdge)
      ∧ (s.presented.hValid = true → s.presented.hWrite = true → s.eng = Eng.idle → s.pend = false →
        decodeHost s.presented.word = i →
        step s = andThen (everyEdge s.openCycle) (exec i))
      ∧ (s.presented.hValid = false ∨ s.eng ≠ Eng.idle ∨ s.pend = true → step s = everyEdge s.openCycle)
      ∧ everyEdge s.openCycle
          = andThen (exec .pwmStep s.openCycle) fun s1 =>
            andThen (exec e s1) fun s2 =>
            andThen (exec .tbCount s2) fun s3 =>
            .next { s3 with pend := s3.pend || (s.overflows && s.ie) }

/-- R351: with an `ENG` code of the table, or a reset, a step is the transition function and the outputs of R351, written with
simultaneous assignments (`referenceCycle`). -/
def Obligations.StepIsTheTransitionFunction : Prop :=
  ∀ s : State, s.eng.toNat ≤ 5 ∨ s.presented.rst = true → step s = .next (referenceCycle s)

/-- When a step stops: exactly without reset at an `ENG` code 6 or 7, with the fault named for it; it is never refused. The model's
choice (log entry 5), derived from R98 and 93_implementation_defined.md U18. -/
def Obligations.StepStopsOnlyAtUnassignedCodes : Prop :=
  ∀ s : State,
    (∀ f, step s = .fault f ↔ s.presented.rst = false ∧ 5 < s.eng.toNat ∧ f = .engUnassigned s.eng)
      ∧ (∀ r, step s ≠ .refused r)

/-- R350, R48: an edge with `rst = 1` puts every register at its reset value, whatever the state and whatever is presented; the
configuration stays; the presented transaction is not performed (`h_ready = 0` in that cycle). -/
def Obligations.ResetEdge : Prop :=
  ∀ s : State, s.presented.rst = true →
    ∃ t, step s = .next t ∧ t.out.hReady = false ∧ t.cfg = s.cfg
      ∧ t.phacc0 = 0 ∧ t.phacc1 = 0 ∧ t.phinc0 = 0 ∧ t.phinc1 = 0 ∧ t.duty0 = 0 ∧ t.duty1 = 0 ∧ t.eng = 0
      ∧ t.ie = false ∧ t.cfgValid = false ∧ t.cfgErr = false ∧ t.refused = false
      ∧ t.tbdiv = BitVec.ofNat 16 s.cfg.firstDivisor ∧ t.pre = 0 ∧ t.tbcnt = 0
      ∧ t.clkrate = 0 ∧ t.tgtrate = 0 ∧ t.stephz = 0 ∧ t.freq0 = 0 ∧ t.freq1 = 0
      ∧ t.tickcnt = 0 ∧ t.tstart = 0 ∧ t.tstop = 0 ∧ t.tblidx = 0
      ∧ t.pwmcnt = 0 ∧ t.dutyact0 = 0 ∧ t.dutyact1 = 0 ∧ t.pend = false

/-- R106: the outputs that a step leaves in `out` are those of the cycle: `h_ready`, `h_rdata` and the two comparators. -/
def Obligations.OutputsOfACycle : Prop :=
  ∀ s t : State, step s = .next t →
    (t.out.hReady = true ↔ s.presented.rst = false ∧ s.eng = Eng.idle ∧ s.pend = false)
      ∧ t.out.hRdata
          = (if s.presented.hValid = true ∧ s.presented.hWrite = false ∧ t.out.hReady = true
              then hostRead s s.presented.hAddr else 0x00)
      ∧ (t.out.pwmOut.getLsbD 0 = true ↔ s.pwmcnt.toNat < s.dutyact0.toNat)
      ∧ (t.out.pwmOut.getLsbD 1 = true ↔ s.pwmcnt.toNat < s.dutyact1.toNat)

/-- R211, R212: on every edge without reset the carrier counts modulo 256, whatever else happens, and the active duties change only
on its wrap, when they take the pre-edge duties; reset starts it at 0. -/
def Obligations.CarrierOnEveryEdge : Prop :=
  ∀ s t : State, step s = .next t →
    (s.presented.rst = true → t.pwmcnt = 0)
      ∧ (s.presented.rst = false →
          t.pwmcnt.toNat = (s.pwmcnt.toNat + 1) % 256
            ∧ t.dutyact0 = (if s.pwmcnt = 255 then s.duty0 else s.dutyact0)
            ∧ t.dutyact1 = (if s.pwmcnt = 255 then s.duty1 else s.dutyact1))

/-- R121: on every edge without reset the prescaler and the count move as the rule says, from a prescaler count below a divisor of at
most 1024, and the within-edge `ovf` is computed from the pre-edge values; a successful `CONFIGURE` on the edge overrides both
assignments with 0, and leaves no tick pending. -/
def Obligations.TimebaseOnEveryEdge : Prop :=
  ∀ s t : State, s.presented.rst = false → s.pre.toNat < s.tbdiv.toNat → s.tbdiv.toNat ≤ 1024 → step s = .next t →
    (s.overflows = true ↔ s.pre.toNat = s.tbdiv.toNat - 1 ∧ s.tbcnt = 255)
      ∧ (s.reconfigures → t.pre = 0 ∧ t.tbcnt = 0 ∧ t.pend = false)
      ∧ (¬ s.reconfigures → s.pre.toNat = s.tbdiv.toNat - 1 →
          t.pre = 0 ∧ t.tbcnt.toNat = (s.tbcnt.toNat + 1) % 256)
      ∧ (¬ s.reconfigures → s.pre.toNat ≠ s.tbdiv.toNat - 1 →
          t.pre.toNat = s.pre.toNat + 1 ∧ t.tbcnt = s.tbcnt)

/-- R122: on every edge without reset the pending latch is set by an overflow with the pre-edge `IE`, cleared by a dispatch, and
overridden with 0 by a `DISABLE` performed on the edge. -/
def Obligations.PendingLatchOnEveryEdge : Prop :=
  ∀ s t : State, s.presented.rst = false → step s = .next t →
    (s.performsWrite 0x01 0x03 → t.pend = false)
      ∧ (¬ s.performsWrite 0x01 0x03 →
          (t.pend = true ↔
            (s.pend = true ∧ ¬ (s.eng = Eng.idle ∧ s.pend = true))
              ∨ (s.pre.toNat + 1 = s.tbdiv.toNat ∧ s.tbcnt = 255 ∧ s.ie = true)))

/-- A transaction presented while a tick is pending or being handled has no effect at all: the step is that of a cycle in which
nothing is presented. Derived from R76 and R92. -/
def Obligations.HeldTransactionHasNoEffect : Prop :=
  ∀ (s : State) (p : PortIn) (rest : List PortIn), p.rst = false → (s.eng ≠ Eng.idle ∨ s.pend = true) →
    step { s with input := p :: rest } = step { s with input := PortIn.idle :: rest }

/-- A read changes nothing but the read data of its cycle: the step with a read presented and the step with nothing presented give
states that differ in `out` only. Derived from R65. -/
def Obligations.ReadsHaveNoSideEffect : Prop :=
  ∀ (s : State) (p : PortIn) (rest : List PortIn), p.rst = false → p.hWrite = false → s.eng.toNat ≤ 5 →
    ∃ t u, step { s with input := p :: rest } = .next t ∧ step { s with input := PortIn.idle :: rest } = .next u
      ∧ t = { u with out := { u.out with hRdata := t.out.hRdata } }

/-! ## Invariants -/

/-- The state after reset is sound and on time, for the default configuration and for every legal one. Derived from R48 and R49. -/
def Obligations.ResetIsSound : Prop :=
  State.reset.Sound ∧ State.reset.OnTime
    ∧ ∀ (c : Config) (input : List PortIn) (out : PortOut), c.legal = true →
        (State.resetWith c input out).Sound ∧ (State.resetWith c input out).OnTime

/-- Every step keeps the invariants of R49, from every sound state and for every input. Derived from R49. -/
def Obligations.StepKeepsSound : Prop :=
  ∀ s t : State, s.Sound → step s = .next t → t.Sound

/-- R49: in every state reachable from reset, under every sequence of inputs and every legal configuration, (a) to (g) hold. -/
def Obligations.ReachableStatesAreSound : Prop :=
  ∀ (c : Config) (input : List PortIn) (out : PortOut) (n : Nat) (t : State), c.legal = true →
    runSteps n (State.resetWith c input out) = .next t →
      t.eng.toNat ≤ 5
        ∧ (t.pend = true → t.ie = true)
        ∧ (t.eng ≠ Eng.idle → t.ie = true)
        ∧ ¬ (t.cfgValid = true ∧ t.cfgErr = true)
        ∧ (t.ie = true → t.cfgValid = true)
        ∧ (t.tbdiv.toNat ∈ c.divisors ∧ t.pre.toNat < t.tbdiv.toNat)
        ∧ ((t.duty0 = 0 ∨ t.duty0 ∈ c.wavetable) ∧ (t.duty1 = 0 ∨ t.duty1 ∈ c.wavetable)
            ∧ (t.dutyact0 = 0 ∨ t.dutyact0 ∈ c.wavetable) ∧ (t.dutyact1 = 0 ∨ t.dutyact1 ∈ c.wavetable))

/-- The alignment of the handler run with the tick period is kept by every step. Derived from R169 and R311. -/
def Obligations.StepKeepsOnTime : Prop :=
  ∀ s t : State, s.Sound → s.OnTime → step s = .next t → t.OnTime

/-- No overrun: whenever an overflow raises a tick, no tick is pending and the engine is idle, so the tick gets a run of its own.
Derived from R311. -/
def Obligations.NoOverrun : Prop :=
  (∀ s : State, s.Sound → s.OnTime → s.overflows = true → s.ie = true → s.pend = false ∧ s.eng = Eng.idle)
    ∧ ∀ (c : Config) (input : List PortIn) (out : PortOut) (n : Nat) (t : State), c.legal = true →
        runSteps n (State.resetWith c input out) = .next t → t.overrun = false

/-- R197: nothing writes the table: no operation and no step, reset included, changes the configuration. -/
def Obligations.NothingWritesTheTable : Prop :=
  (∀ (i : Instr) (s t : State), exec i s = .next t → t.cfg = s.cfg)
    ∧ (∀ s t : State, step s = .next t → t.cfg = s.cfg)

/-- R301: an operation is refused exactly for the reasons of the closed list, with `REFUSED` (and the ghost reason, log entry 4) as
its whole effect; an operation that is not refused leaves `REFUSED`; no read is refused; and `REFUSED` stays until reset. -/
def Obligations.RefusalsAreTheClosedList : Prop :=
  (∀ (i : Instr) (s : State) (r : RefusedReason), refusalOf i s = some r →
      exec i s = .next { s with refused := true, refusedWhy := some r })
    ∧ (∀ (i : Instr) (s : State), refusalOf i s = none → ∃ t, exec i s = .next t ∧ t.refused = s.refused)
    ∧ (∀ (i : Instr) (s : State), i.format = .rd → refusalOf i s = none)
    ∧ (∀ s t : State, s.presented.rst = false → step s = .next t → s.refused = true → t.refused = true)

/-! ## Who writes what -/

/-- The engine owns the phase and the diagnostics: without reset, an accumulator or duty changes only at its channel's step, a
timestamp only at its own step, and the tick counter only at `CNT` or by `CLRTICK`. Derived from R52. -/
def Obligations.EngineOwnsPhaseAndDuty : Prop :=
  ∀ s t : State, s.presented.rst = false → step s = .next t →
    (s.eng ≠ Eng.ch0 → t.phacc0 = s.phacc0 ∧ t.duty0 = s.duty0)
      ∧ (s.eng ≠ Eng.ch1 → t.phacc1 = s.phacc1 ∧ t.duty1 = s.duty1)
      ∧ (s.eng ≠ Eng.t0 → t.tstart = s.tstart)
      ∧ (s.eng ≠ Eng.t1 → t.tstop = s.tstop)
      ∧ (s.eng ≠ Eng.cnt → ¬ s.performsWrite 0x01 0x06 → t.tickcnt = s.tickcnt)

/-- During a pending tick and a handler run the host changes nothing: every register that only the host writes stays. Derived from
R70 (b) and R76. -/
def Obligations.HostRegistersHoldDuringARun : Prop :=
  ∀ s t : State, s.presented.rst = false → (s.eng ≠ Eng.idle ∨ s.pend = true) → step s = .next t →
    t.phinc0 = s.phinc0 ∧ t.phinc1 = s.phinc1 ∧ t.freq0 = s.freq0 ∧ t.freq1 = s.freq1
      ∧ t.clkrate = s.clkrate ∧ t.tgtrate = s.tgtrate ∧ t.stephz = s.stephz ∧ t.tbdiv = s.tbdiv
      ∧ t.tblidx = s.tblidx ∧ t.ie = s.ie ∧ t.cfgValid = s.cfgValid ∧ t.cfgErr = s.cfgErr
      ∧ t.refused = s.refused ∧ t.refusedWhy = s.refusedWhy

/-- No increment, no divisor and no `STEPHZ` changes on an edge that starts armed, whatever the host presents. Derived from R22, R125
and R358. -/
def Obligations.IncrementsLockedWhileArmed : Prop :=
  ∀ s t : State, s.presented.rst = false → s.ie = true → step s = .next t →
    t.phinc0 = s.phinc0 ∧ t.phinc1 = s.phinc1 ∧ t.tbdiv = s.tbdiv ∧ t.stephz = s.stephz

/-- A disarmed, idle core stands still: no tick is raised, the engine stays idle, and phases, duties and timestamps keep their
values, whatever the host presents short of reset. Derived from R131. -/
def Obligations.DisarmedCoreStandsStill : Prop :=
  ∀ s t : State, s.presented.rst = false → s.ie = false → s.eng = Eng.idle → s.pend = false → step s = .next t →
    t.eng = Eng.idle ∧ t.pend = false ∧ t.phacc0 = s.phacc0 ∧ t.phacc1 = s.phacc1
      ∧ t.duty0 = s.duty0 ∧ t.duty1 = s.duty1 ∧ t.tstart = s.tstart ∧ t.tstop = s.tstop
      ∧ (¬ s.performsWrite 0x01 0x06 → t.tickcnt = s.tickcnt)

/-- Channel 1 does not interfere with channel 0: two states that differ only in channel 1's registers step, with the same inputs, to
states that differ only there and in the outputs. Derived from R161 (P4). -/
def Obligations.ChannelOneDoesNotTouchChannelZero : Prop :=
  ∀ (s : State) (acc inc freq : Word) (duty act : Byte), s.eng.toNat ≤ 5 →
    ∃ t u, step s = .next t
      ∧ step { s with phacc1 := acc, phinc1 := inc, freq1 := freq, duty1 := duty, dutyact1 := act } = .next u
      ∧ u = { t with phacc1 := u.phacc1, phinc1 := u.phinc1, freq1 := u.freq1, duty1 := u.duty1,
                     dutyact1 := u.dutyact1, out := u.out }

/-- The mirror of ChannelOneDoesNotTouchChannelZero. Derived from R161 (P4). -/
def Obligations.ChannelZeroDoesNotTouchChannelOne : Prop :=
  ∀ (s : State) (acc inc freq : Word) (duty act : Byte), s.eng.toNat ≤ 5 →
    ∃ t u, step s = .next t
      ∧ step { s with phacc0 := acc, phinc0 := inc, freq0 := freq, duty0 := duty, dutyact0 := act } = .next u
      ∧ u = { t with phacc0 := u.phacc0, phinc0 := u.phinc0, freq0 := u.freq0, duty0 := u.duty0,
                     dutyact0 := u.dutyact0, out := u.out }

/-! ## Runs -/

/-- The six edges from `E.DISPATCH` to `E.CNT` have the effect of the one operation `TICK(t0, t1)` on the engine's registers,
`t0` and `t1` the counts in the `T0` and `T1` cycles, whatever the host presents short of reset; the
increments, `IE` and the divisor stay. Derived from R157. -/
def Obligations.HandlerRunIsOneTick : Prop :=
  ∀ s : State, s.eng = Eng.idle → s.pend = true → s.noResetFor 6 →
    ∃ a b t, runSteps 1 s = .next a ∧ runSteps 4 s = .next b ∧ runSteps 6 s = .next t
      ∧ t.eng = Eng.idle
      ∧ t.tstart = (tick a.tbcnt b.tbcnt s).tstart ∧ t.tstop = (tick a.tbcnt b.tbcnt s).tstop
      ∧ t.phacc0 = (tick a.tbcnt b.tbcnt s).phacc0 ∧ t.phacc1 = (tick a.tbcnt b.tbcnt s).phacc1
      ∧ t.duty0 = (tick a.tbcnt b.tbcnt s).duty0 ∧ t.duty1 = (tick a.tbcnt b.tbcnt s).duty1
      ∧ t.tickcnt = (tick a.tbcnt b.tbcnt s).tickcnt
      ∧ t.phinc0 = s.phinc0 ∧ t.phinc1 = s.phinc1 ∧ t.ie = s.ie ∧ t.tbdiv = s.tbdiv

/-- The course of a handler run after an overflow with `IE = 1`: the cycle in which the tick is pending, the five steps, and the
idle cycle after them, with the timestamps that the divisor gives. Derived from R169. -/
def Obligations.HandlerRunTimeline : Prop :=
  ∀ s : State, s.Sound → s.OnTime → s.overflows = true → s.ie = true → s.noResetFor 7 → ¬ s.performsWrite 0x01 0x03 →
    ∃ t1 t2 t3 t4 t5 t6 t7, runSteps 1 s = .next t1 ∧ runSteps 2 s = .next t2 ∧ runSteps 3 s = .next t3
      ∧ runSteps 4 s = .next t4 ∧ runSteps 5 s = .next t5 ∧ runSteps 6 s = .next t6 ∧ runSteps 7 s = .next t7
      ∧ (t1.eng = Eng.idle ∧ t1.pend = true) ∧ t2.eng = Eng.t0 ∧ t3.eng = Eng.ch0 ∧ t4.eng = Eng.ch1
      ∧ t5.eng = Eng.t1 ∧ t6.eng = Eng.cnt ∧ (t7.eng = Eng.idle ∧ t7.pend = false)
      ∧ t2.out.hReady = false ∧ t3.out.hReady = false ∧ t4.out.hReady = false ∧ t5.out.hReady = false
      ∧ t6.out.hReady = false ∧ t7.out.hReady = false
      ∧ t7.tstart.toNat = 1 / s.tbdiv.toNat ∧ t7.tstop.toNat = 4 / s.tbdiv.toNat

/-- A waiting transaction is held for at most six cycles: within six steps without reset the core is ready. Derived from R76 and
R364. -/
def Obligations.HostWaitsAtMostSixCycles : Prop :=
  ∀ s : State, s.Sound → s.OnTime → s.noResetFor 6 →
    ∃ j, j ≤ 6 ∧ ∃ t, runSteps j s = .next t ∧ t.eng = Eng.idle ∧ t.pend = false

/-- The position in the tick period advances by one, modulo the period, on every edge without reset and without a successful
`CONFIGURE`. Derived from R121 and R123. -/
def Obligations.PositionAdvances : Prop :=
  ∀ s t : State, s.Sound → s.presented.rst = false → ¬ s.reconfigures → step s = .next t →
    t.tbdiv = s.tbdiv ∧ t.position = (s.position + 1) % s.tickPeriod

/-- The tick period: from position 0, with no reset and no `CONFIGURE` presented, the count is `n / TBDIV` modulo 256 after `n` edges,
and overflows are exactly `256 * TBDIV` edges apart. Derived from R123. -/
def Obligations.OverflowsAreOnePeriodApart : Prop :=
  ∀ (s : State) (n : Nat), s.Sound → s.position = 0 → s.noConfigureFor n →
    ∃ t, runSteps n s = .next t
      ∧ t.tbcnt.toNat = n / s.tbdiv.toNat % 256
      ∧ (t.overflows = true ↔ (n + 1) % s.tickPeriod = 0)

/-- The first tick after `ENABLE`: with `p` the position of the cycle in which it is performed and no write or reset after it, no
tick is pending after the next `d` edges but the last, where `d` is `256 * TBDIV - 1 - p`, or `256 * TBDIV` when that is 0. Derived
from R362. -/
def Obligations.FirstTickAfterEnable : Prop :=
  ∀ (s : State) (d : Nat), s.Sound → s.eng = Eng.idle → s.pend = false → s.ie = false → s.cfgValid = true →
    s.presented.rst = false → s.presented.presentsWrite 0x01 0x02 →
    d = (if s.position = s.tickPeriod - 1 then s.tickPeriod else s.tickPeriod - 1 - s.position) →
    (∀ p ∈ s.input.tail.take d, p.rst = false ∧ p.hWrite = false) →
      (∀ m, m < d → ∃ t, runSteps (m + 1) s = .next t ∧ t.ie = true ∧ t.pend = false)
        ∧ ∃ t, runSteps (d + 1) s = .next t ∧ t.pend = true

/-- A steady tone: from a cycle with a tick pending, armed and on time, with no reset and no write, after `n` whole tick periods the
core is again at a pending tick, and each accumulator has advanced by `n` increments, the tick counter by `n`. Derived from R160 (P1)
and R123. -/
def Obligations.SteadyTone : Prop :=
  ∀ (s : State) (n : Nat), s.Sound → s.OnTime → s.pend = true → s.quietFor (n * s.tickPeriod) →
    ∃ t, runSteps (n * s.tickPeriod) s = .next t
      ∧ t.eng = Eng.idle ∧ t.pend = true ∧ t.position = 0
      ∧ t.phacc0.toNat = (s.phacc0.toNat + n * s.phinc0.toNat) % 2 ^ 32
      ∧ t.phacc1.toNat = (s.phacc1.toNat + n * s.phinc1.toNat) % 2 ^ 32
      ∧ t.phinc0 = s.phinc0 ∧ t.phinc1 = s.phinc1
      ∧ t.tickcnt.toNat = (s.tickcnt.toNat + n) % 2 ^ 16

/-- A carrier period: from a carrier count of 0, in each of the 256 cycles the output of a channel is high exactly in the first
`DUTYACT` of them, whatever else happens short of reset. Derived from R214. -/
def Obligations.CarrierPeriodShowsTheDuty : Prop :=
  ∀ (s : State) (j : Nat), s.Sound → s.pwmcnt = 0 → s.noResetFor 256 → j < 256 →
    ∃ t, runSteps (j + 1) s = .next t
      ∧ t.out.pwmOut.getLsbD 0 = decide (j < s.dutyact0.toNat)
      ∧ t.out.pwmOut.getLsbD 1 = decide (j < s.dutyact1.toNat)

/-- The read window: an index written to `TBLIDX` and a read of `TBLDATA` in the next cycle give the table's entry, with the tick
disarmed. Derived from R196. -/
def Obligations.TableWindow : Prop :=
  ∀ (s : State) (i x : Byte) (rest : List PortIn), s.eng = Eng.idle → s.pend = false → s.ie = false →
    ∃ t, runSteps 2 { s with input := ⟨false, true, true, 0x30, i⟩ :: ⟨false, true, false, 0x31, x⟩ :: rest } = .next t
      ∧ t.out.hReady = true ∧ t.out.hRdata = s.cfg.wavetable.getD i.toNat 0 ∧ t.tblidx = i

/-- A torn read: a host that reads the two bytes of `TICKCNT` one after the other can assemble 0x01FF while the counter goes from
0x00FF to 0x0100. The example of R64. A litmus statement. -/
def Obligations.TornReadOfTheTickCounter : Prop :=
  ∃ (s t u : State) (n : Nat), s.Sound ∧ s.OnTime ∧ s.tickcnt = 0x00FF
    ∧ s.presented = ⟨false, true, false, 0x28, 0⟩ ∧ step s = .next t
    ∧ t.out.hReady = true ∧ t.out.hRdata = 0xFF ∧ t.tickcnt = 0x00FF
    ∧ (∀ p ∈ t.input, p = ⟨false, true, false, 0x29, 0⟩)
    ∧ runSteps n t = .next u ∧ u.out.hReady = true ∧ u.out.hRdata = 0x01 ∧ u.tickcnt = 0x0100

/-! ## Arithmetic of rates and phases -/

/-- R124: `select_div` gives the member of `DIVISORS` whose achieved rate is nearest to the target, and of two equally near the
smaller. -/
def Obligations.SelectDivIsNearest : Prop :=
  ∀ (c : Config) (clk tgt : Nat), c.legal = true → 1 ≤ clk → 1 ≤ tgt →
    selectDiv c clk tgt ∈ c.divisors
      ∧ ∀ d ∈ c.divisors,
          |(clk : ℚ) / (256 * (selectDiv c clk tgt : ℚ)) - (tgt : ℚ)| ≤ |(clk : ℚ) / (256 * (d : ℚ)) - (tgt : ℚ)|
            ∧ (|(clk : ℚ) / (256 * (selectDiv c clk tgt : ℚ)) - (tgt : ℚ)| = |(clk : ℚ) / (256 * (d : ℚ)) - (tgt : ℚ)|
                → selectDiv c clk tgt ≤ d)

/-- After a successful `CONFIGURE` the divisor that the host reads back is a member of `DIVISORS` whole, and the achieved rate
`CLKRATE / (256 * TBDIV)` equals the target exactly when the clock rate is `256 * TBDIV * TGTRATE`. Derived from R125 and R128. -/
def Obligations.AchievedRateAfterConfigure : Prop :=
  ∀ s t : State, s.cfg.legal = true → s.ie = false → s.clkrate ≠ 0 → s.tgtrate ≠ 0 → exec .cmdConfigure s = .next t →
    t.tbdiv.toNat = selectDiv s.cfg s.clkrate.toNat s.tgtrate.toNat
      ∧ t.tbdiv.toNat ∈ s.cfg.divisors
      ∧ (t.achievedRate = (t.tgtrate.toNat : ℚ) ↔ t.clkrate.toNat = 256 * t.tbdiv.toNat * t.tgtrate.toNat)

/-- P2: with no wrap of the product, the increment that `SETFREQ` computes gives the frequency back on division by `STEPHZ`. Derived
from R163. -/
def Obligations.FrequencyIsRecovered : Prop :=
  ∀ s : State, s.ie = false → s.cfgValid = true → s.stephz ≠ 0 →
    (s.freq0.toNat * s.stephz.toNat < 2 ^ 32 →
        ∃ t, exec .cmdSetfreq0 s = .next t ∧ t.phinc0.toNat / t.stephz.toNat = s.freq0.toNat
          ∧ t.phinc0.toNat % t.stephz.toNat = 0)
      ∧ (s.freq1.toNat * s.stephz.toNat < 2 ^ 32 →
        ∃ t, exec .cmdSetfreq1 s = .next t ∧ t.phinc1.toNat / t.stephz.toNat = s.freq1.toNat
          ∧ t.phinc1.toNat % t.stephz.toNat = 0)

/-- R162 (P5): under a fixed increment `q`, the accumulator sequence from `p` has least period `2^32 / gcd(2^32, q)` and visits every
value congruent to `p` modulo that gcd, and the sequence of table indices has the same least period. -/
def Obligations.PhaseSequenceHasItsPeriod : Prop :=
  ∀ p q : Word,
    (∀ r : Nat, (∀ n : Nat, (fun a => phaseStep a q)^[n + r] p = (fun a => phaseStep a q)^[n] p)
        ↔ 2 ^ 32 / Nat.gcd (2 ^ 32) q.toNat ∣ r)
      ∧ (∀ v : Word, v.toNat % Nat.gcd (2 ^ 32) q.toNat = p.toNat % Nat.gcd (2 ^ 32) q.toNat →
          ∃ n : Nat, (fun a => phaseStep a q)^[n] p = v)
      ∧ (∀ r : Nat, (∀ n : Nat, tableIndex ((fun a => phaseStep a q)^[n + r] p) = tableIndex ((fun a => phaseStep a q)^[n] p))
        ↔ 2 ^ 32 / Nat.gcd (2 ^ 32) q.toNat ∣ r)

/-- R193: the properties (a) to (g) of the default table. -/
def Obligations.DefaultTableShape : Prop :=
  (∀ i : Byte, ((Config.standard.sample i = 0 ↔ 189 ≤ i.toNat ∧ i.toNat ≤ 195)
      ∧ (Config.standard.sample i = 254 ↔ 61 ≤ i.toNat ∧ i.toNat ≤ 67)
      ∧ (Config.standard.sample i).toNat ≤ 254)
    ∧ (Config.standard.sample i).toNat + (Config.standard.sample (i + 128)).toNat = 254
    ∧ (i.toNat ≤ 128 → Config.standard.sample (128 - i) = Config.standard.sample i)
    ∧ (128 ≤ i.toNat → Config.standard.sample (BitVec.ofNat 8 (384 - i.toNat)) = Config.standard.sample i)
    ∧ (192 ≤ i.toNat ∨ i.toNat < 64 → (Config.standard.sample i).toNat ≤ (Config.standard.sample (i + 1)).toNat)
    ∧ (64 ≤ i.toNat ∧ i.toNat < 192 → (Config.standard.sample (i + 1)).toNat ≤ (Config.standard.sample i).toNat)
    ∧ ((Config.standard.sample i).toNat ≤ (Config.standard.sample (i + 1)).toNat + 4
        ∧ (Config.standard.sample (i + 1)).toNat ≤ (Config.standard.sample i).toNat + 4))
  ∧ (Config.standard.sample 0 = 127 ∧ Config.standard.sample 128 = 127)
  ∧ (Config.standard.wavetable.map (fun v => v.toNat)).sum = 32512
  ∧ ((Config.standard.sample 4).toNat = 139 ∧ (Config.standard.sample 5).toNat = 143)

/-- The preconditions of a configuration are checked when it is built: what `Config.build` accepts is legal and holds the samples and
divisors given, and it accepts every list of 256 samples in 0..255 with a non-empty, strictly rising list of positive divisors of at
most 1024. Derived from R8, R194 and 93_implementation_defined.md U23. -/
def Obligations.ConfigurationIsCheckedWhenBuilt : Prop :=
  (∀ (samples divisors : List Nat) (c : Config), Config.build samples divisors = .ok c →
      c.legal = true ∧ c.wavetable.map (fun v => v.toNat) = samples ∧ c.divisors = divisors)
    ∧ (∀ samples divisors : List Nat, samples.length = 256 → (∀ v ∈ samples, v ≤ 255) → divisors ≠ [] →
        divisors.Pairwise (fun a b => a < b) → (∀ d ∈ divisors, 1 ≤ d ∧ d ≤ 1024) →
        ∃ c, Config.build samples divisors = .ok c)
end

