-- ==== Sys2Proof/Laws/Decode.lean ====
section
/-!
SUPPORT. The fields of a transaction word, and the operand fields of an address.
-/

namespace Sys2Proof

variable (w : Bool) (a : Addr) (d : Byte)

/-- The word is its three fields joined, the write bit on top (spec 30_encoding.md R93). -/
theorem ofFields_getLsbD (i : Nat) :
    (TxWord.ofFields w a d).getLsbD i
      = if i < 8 then d.getLsbD i else if i - 8 < 6 then a.getLsbD (i - 8) else (BitVec.ofBool w).getLsbD (i - 8 - 6) := by
  show (BitVec.ofBool w ++ a ++ d : BitVec (1 + 6 + 8)).getLsbD i = _
  rw [BitVec.getLsbD_append]
  by_cases h : i < 8
  · simp [h]
  · simp only [h, if_false]
    show (BitVec.ofBool w ++ a : BitVec (1 + 6)).getLsbD (i - 8) = _
    rw [BitVec.getLsbD_append]

@[simp] theorem isWrite_ofFields : (TxWord.ofFields w a d).isWrite = w := by
  show (TxWord.ofFields w a d).getLsbD 14 = w
  rw [ofFields_getLsbD]
  cases w <;> rfl

@[simp] theorem addr_ofFields : (TxWord.ofFields w a d).addr = a := by
  apply BitVec.eq_of_getLsbD_eq
  intro i hi
  have h1 : ¬ (8 + i < 8) := by omega
  have h2 : 8 + i - 8 = i := by omega
  rw [TxWord.addr, BitVec.getLsbD_extractLsb', ofFields_getLsbD, if_neg h1, h2, if_pos hi, decide_eq_true hi, Bool.true_and]

@[simp] theorem data_ofFields : (TxWord.ofFields w a d).data = d := by
  apply BitVec.eq_of_getLsbD_eq
  intro i hi
  rw [TxWord.data, BitVec.getLsbD_extractLsb', Nat.zero_add, ofFields_getLsbD, if_pos hi, decide_eq_true hi, Bool.true_and]

/-- A word is its three fields (R93). -/
theorem ofFields_fields (v : TxWord) : TxWord.ofFields v.isWrite v.addr v.data = v := by
  apply BitVec.eq_of_getLsbD_eq
  intro i hi
  rw [ofFields_getLsbD]
  by_cases h : i < 8
  · rw [if_pos h, TxWord.data, BitVec.getLsbD_extractLsb', Nat.zero_add, decide_eq_true h, Bool.true_and]
  · by_cases h' : i - 8 < 6
    · rw [if_neg h, if_pos h', TxWord.addr, BitVec.getLsbD_extractLsb', decide_eq_true h', Bool.true_and]
      congr 1
      omega
    · have : i = 14 := by omega
      subst this
      simp [TxWord.isWrite]

/-- The decoder reads a word by its fields. -/
theorem decodeHost_ofFields : decodeHost (TxWord.ofFields w a d) = if w then decodeWr a d else decodeRd a := by
  simp [decodeHost]

end Sys2Proof
end

