-- ==== Sys2Proof/Laws/Exec.lean ====
section
/-!
SUPPORT. One equation per operation: what `exec` gives, in terms of the shared operations. Later proofs rewrite with these and do
not unfold `exec` or a meaning.
-/

namespace Sys2Proof.Machine

@[simp] theorem exec_rdStatus (s : State) :
    exec (.rdStatus) s = .next (s.deliver s.status) := rfl

@[simp] theorem exec_rdCmd (s : State) :
    exec (.rdCmd) s = .next (s.deliver 0x00) := rfl

@[simp] theorem exec_rdTbdiv (k : BitVec 1) (s : State) :
    exec (.rdTbdiv k) s = .next (s.deliver (byteOfHalf s.tbdiv k)) := rfl

@[simp] theorem exec_rdClkrate (k : BitVec 2) (s : State) :
    exec (.rdClkrate k) s = .next (s.deliver (byteOfWord s.clkrate k)) := rfl

@[simp] theorem exec_rdTgtrate (k : BitVec 2) (s : State) :
    exec (.rdTgtrate k) s = .next (s.deliver (byteOfWord s.tgtrate k)) := rfl

@[simp] theorem exec_rdStephz (k : BitVec 2) (s : State) :
    exec (.rdStephz k) s = .next (s.deliver (byteOfWord s.stephz k)) := rfl

@[simp] theorem exec_rdFreq0 (k : BitVec 2) (s : State) :
    exec (.rdFreq0 k) s = .next (s.deliver (byteOfWord s.freq0 k)) := rfl

@[simp] theorem exec_rdFreq1 (k : BitVec 2) (s : State) :
    exec (.rdFreq1 k) s = .next (s.deliver (byteOfWord s.freq1 k)) := rfl

@[simp] theorem exec_rdPhinc0 (k : BitVec 2) (s : State) :
    exec (.rdPhinc0 k) s = .next (s.deliver (byteOfWord s.phinc0 k)) := rfl

@[simp] theorem exec_rdPhinc1 (k : BitVec 2) (s : State) :
    exec (.rdPhinc1 k) s = .next (s.deliver (byteOfWord s.phinc1 k)) := rfl

@[simp] theorem exec_rdPhacc0 (k : BitVec 2) (s : State) :
    exec (.rdPhacc0 k) s = .next (s.deliver (byteOfWord s.phacc0 k)) := rfl

@[simp] theorem exec_rdPhacc1 (k : BitVec 2) (s : State) :
    exec (.rdPhacc1 k) s = .next (s.deliver (byteOfWord s.phacc1 k)) := rfl

@[simp] theorem exec_rdTickcnt (k : BitVec 1) (s : State) :
    exec (.rdTickcnt k) s = .next (s.deliver (byteOfHalf s.tickcnt k)) := rfl

@[simp] theorem exec_rdTstart (s : State) :
    exec (.rdTstart) s = .next (s.deliver s.tstart) := rfl

@[simp] theorem exec_rdTstop (s : State) :
    exec (.rdTstop) s = .next (s.deliver s.tstop) := rfl

@[simp] theorem exec_rdDuty0 (s : State) :
    exec (.rdDuty0) s = .next (s.deliver s.duty0) := rfl

@[simp] theorem exec_rdDuty1 (s : State) :
    exec (.rdDuty1) s = .next (s.deliver s.duty1) := rfl

@[simp] theorem exec_rdTbcnt (s : State) :
    exec (.rdTbcnt) s = .next (s.deliver s.tbcnt) := rfl

@[simp] theorem exec_rdTblidx (s : State) :
    exec (.rdTblidx) s = .next (s.deliver s.tblidx) := rfl

@[simp] theorem exec_rdTbldata (s : State) :
    exec (.rdTbldata) s = .next (s.deliver (s.cfg.sample s.tblidx)) := rfl

@[simp] theorem exec_rdRsvd (a : Addr) (s : State) :
    exec (.rdRsvd a) s = .next (s.deliver 0x00) := rfl

@[simp] theorem exec_wrClkrate (k : BitVec 2) (d : Byte) (s : State) :
    exec (.wrClkrate k d) s = .next { s with clkrate := setByte s.clkrate k d } := rfl

@[simp] theorem exec_wrTgtrate (k : BitVec 2) (d : Byte) (s : State) :
    exec (.wrTgtrate k d) s = .next { s with tgtrate := setByte s.tgtrate k d } := rfl

@[simp] theorem exec_wrFreq0 (k : BitVec 2) (d : Byte) (s : State) :
    exec (.wrFreq0 k d) s = .next { s with freq0 := setByte s.freq0 k d } := rfl

@[simp] theorem exec_wrFreq1 (k : BitVec 2) (d : Byte) (s : State) :
    exec (.wrFreq1 k d) s = .next { s with freq1 := setByte s.freq1 k d } := rfl

@[simp] theorem exec_wrTblidx (d : Byte) (s : State) :
    exec (.wrTblidx d) s = .next { s with tblidx := d } := rfl

@[simp] theorem exec_wrPhinc0 (k : BitVec 2) (d : Byte) (s : State) :
    exec (.wrPhinc0 k d) s = unlessRefused s.lockedRefusal s { s with phinc0 := setByte s.phinc0 k d } := rfl

@[simp] theorem exec_wrPhinc1 (k : BitVec 2) (d : Byte) (s : State) :
    exec (.wrPhinc1 k d) s = unlessRefused s.lockedRefusal s { s with phinc1 := setByte s.phinc1 k d } := rfl

@[simp] theorem exec_wrRo (a : Addr) (d : Byte) (s : State) :
    exec (.wrRo a d) s = .next (s.raiseRefused .readOnly) := rfl

@[simp] theorem exec_wrRsvd (a : Addr) (d : Byte) (s : State) :
    exec (.wrRsvd a d) s = .next (s.raiseRefused .reservedAddr) := rfl

@[simp] theorem exec_cmdNop (s : State) :
    exec (.cmdNop) s = .next s := rfl

@[simp] theorem exec_cmdConfigure (s : State) :
    exec (.cmdConfigure) s = unlessRefused s.lockedRefusal s
      (if s.clkrate = 0 ∨ s.tgtrate = 0 then { s with cfgErr := true, cfgValid := false } else s.configured) := rfl

@[simp] theorem exec_cmdEnable (s : State) :
    exec (.cmdEnable) s = unlessRefused s.unconfiguredRefusal s { s with ie := true } := rfl

@[simp] theorem exec_cmdDisable (s : State) :
    exec (.cmdDisable) s = .next { s with ie := false, pend := false } := rfl

@[simp] theorem exec_cmdSetfreq0 (s : State) :
    exec (.cmdSetfreq0) s = unlessRefused s.setfreqRefusal s { s with phinc0 := phaseIncrement s.freq0 s.stephz } := rfl

@[simp] theorem exec_cmdSetfreq1 (s : State) :
    exec (.cmdSetfreq1) s = unlessRefused s.setfreqRefusal s { s with phinc1 := phaseIncrement s.freq1 s.stephz } := rfl

@[simp] theorem exec_cmdClrtick (s : State) :
    exec (.cmdClrtick) s = .next { s with tickcnt := 0 } := rfl

@[simp] theorem exec_cmdRsvd (code : Byte) (s : State) :
    exec (.cmdRsvd code) s = .next (s.raiseRefused .reservedCmd) := rfl

@[simp] theorem exec_eDispatch (s : State) :
    exec (.eDispatch) s = .next s.dispatchTick := rfl

@[simp] theorem exec_eT0 (s : State) :
    exec (.eT0) s = .next s.recordStart := rfl

@[simp] theorem exec_eCh0 (s : State) :
    exec (.eCh0) s = .next s.advanceChannel0 := rfl

@[simp] theorem exec_eCh1 (s : State) :
    exec (.eCh1) s = .next s.advanceChannel1 := rfl

@[simp] theorem exec_eT1 (s : State) :
    exec (.eT1) s = .next s.recordStop := rfl

@[simp] theorem exec_eCnt (s : State) :
    exec (.eCnt) s = .next s.countTick.returnFromTick := rfl

@[simp] theorem exec_tbCount (s : State) :
    exec (.tbCount) s = .next s.timebaseCount := rfl

@[simp] theorem exec_pwmStep (s : State) :
    exec (.pwmStep) s = .next s.carrierStep := rfl

end Sys2Proof.Machine
end

