-- ==== Sys2Proof/Laws/Operands.lean ====
section
/-!
SUPPORT. What the operand forms do: reading and replacing one byte of a register, and the table index of an accumulator.
-/

namespace Sys2Proof.Machine

/-- The four byte numbers of a 32-bit register. -/
theorem byteNumber_cases (k : BitVec 2) : k = 0 ∨ k = 1 ∨ k = 2 ∨ k = 3 := by
  revert k; decide

/-- The eight codes that `ENG` can hold. -/
theorem engCode_cases (e : EngCode) : e = 0 ∨ e = 1 ∨ e = 2 ∨ e = 3 ∨ e = 4 ∨ e = 5 ∨ e = 6 ∨ e = 7 := by
  revert e; decide

/-- Replacing byte `k` of a word shows in byte `k` and in no other (spec 20_memory.md R62, R77). -/
theorem byteOfWord_setByte (v : Word) (k j : BitVec 2) (d : Byte) :
    byteOfWord (setByte v k d) j = if j = k then d else byteOfWord v j := by
  unfold byteOfWord setByte
  apply BitVec.eq_of_getLsbD_eq
  intro i hi
  rcases (by omega : i = 0 ∨ i = 1 ∨ i = 2 ∨ i = 3 ∨ i = 4 ∨ i = 5 ∨ i = 6 ∨ i = 7) with
    rfl | rfl | rfl | rfl | rfl | rfl | rfl | rfl <;>
  rcases byteNumber_cases k with rfl | rfl | rfl | rfl <;>
  rcases byteNumber_cases j with rfl | rfl | rfl | rfl <;> simp

/-- A word is its four bytes. -/
theorem word_ext_bytes {v w : Word} (h : ∀ k, byteOfWord v k = byteOfWord w k) : v = w := by
  apply BitVec.eq_of_getLsbD_eq
  intro i hi
  have hk := congrArg (fun b => b.getLsbD (i % 8)) (h (BitVec.ofNat 2 (i / 8)))
  have h1 : i / 8 % 4 = i / 8 := by omega
  have h2 : 8 * (i / 8) + i % 8 = i := by omega
  have h3 : i % 8 < 8 := by omega
  simpa [byteOfWord, BitVec.getLsbD_extractLsb', h1, h2, h3] using hk

/-- The table index is the exact quotient by 2^24 (spec 41_dds_engine.md R159). -/
theorem tableIndex_toNat (a : Word) : (tableIndex a).toNat = a.toNat / 2 ^ 24 := by
  have : a.toNat < 2 ^ 32 := a.isLt
  simp only [tableIndex, shift, BitVec.toNat_setWidth, BitVec.toNat_ushiftRight, Nat.shiftRight_eq_div_pow]
  omega

/-- The table index is the top byte of the accumulator (R159). -/
theorem tableIndex_eq_extract (a : Word) : tableIndex a = a.extractLsb' 24 8 := by
  apply BitVec.eq_of_toNat_eq
  rw [tableIndex_toNat]
  have : a.toNat < 2 ^ 32 := a.isLt
  simp only [BitVec.extractLsb'_toNat, Nat.shiftRight_eq_div_pow]
  omega

/-- Byte `a - b` of a word, as a byte of the register (R62, R69). -/
theorem byteAt_word (v : Word) (b : Nat) (k : BitVec 2) : byteAt v.toNat b (b + k.toNat) = byteOfWord v k := by
  apply BitVec.eq_of_toNat_eq
  have e : (256 : Nat) ^ k.toNat = 2 ^ (8 * k.toNat) := by rw [Nat.pow_mul]
  simp [byteAt, byteOfWord, BitVec.extractLsb'_toNat, Nat.shiftRight_eq_div_pow, e]

/-- Byte `a - b` of a half word, as a byte of the register (R62, R69). -/
theorem byteAt_half (v : Half) (b : Nat) (k : BitVec 1) : byteAt v.toNat b (b + k.toNat) = byteOfHalf v k := by
  apply BitVec.eq_of_toNat_eq
  have e : (256 : Nat) ^ k.toNat = 2 ^ (8 * k.toNat) := by rw [Nat.pow_mul]
  simp [byteAt, byteOfHalf, BitVec.extractLsb'_toNat, Nat.shiftRight_eq_div_pow, e]

end Sys2Proof.Machine
end

