-- ==== Sys2Proof/Laws/State.lean ====
section
/-!
SUPPORT. The small lemmas of the named updates of the state: one per field per update, so that no later proof unfolds a record
update.
-/

namespace Sys2Proof.Machine

variable (s : State)

/-! `State.deliver` -/

@[simp] theorem deliver_phacc0 (b : Byte) : (s.deliver b).phacc0 = s.phacc0 := rfl
@[simp] theorem deliver_phacc1 (b : Byte) : (s.deliver b).phacc1 = s.phacc1 := rfl
@[simp] theorem deliver_phinc0 (b : Byte) : (s.deliver b).phinc0 = s.phinc0 := rfl
@[simp] theorem deliver_phinc1 (b : Byte) : (s.deliver b).phinc1 = s.phinc1 := rfl
@[simp] theorem deliver_duty0 (b : Byte) : (s.deliver b).duty0 = s.duty0 := rfl
@[simp] theorem deliver_duty1 (b : Byte) : (s.deliver b).duty1 = s.duty1 := rfl
@[simp] theorem deliver_eng (b : Byte) : (s.deliver b).eng = s.eng := rfl
@[simp] theorem deliver_ie (b : Byte) : (s.deliver b).ie = s.ie := rfl
@[simp] theorem deliver_cfgValid (b : Byte) : (s.deliver b).cfgValid = s.cfgValid := rfl
@[simp] theorem deliver_cfgErr (b : Byte) : (s.deliver b).cfgErr = s.cfgErr := rfl
@[simp] theorem deliver_refused (b : Byte) : (s.deliver b).refused = s.refused := rfl
@[simp] theorem deliver_tbdiv (b : Byte) : (s.deliver b).tbdiv = s.tbdiv := rfl
@[simp] theorem deliver_pre (b : Byte) : (s.deliver b).pre = s.pre := rfl
@[simp] theorem deliver_tbcnt (b : Byte) : (s.deliver b).tbcnt = s.tbcnt := rfl
@[simp] theorem deliver_clkrate (b : Byte) : (s.deliver b).clkrate = s.clkrate := rfl
@[simp] theorem deliver_tgtrate (b : Byte) : (s.deliver b).tgtrate = s.tgtrate := rfl
@[simp] theorem deliver_stephz (b : Byte) : (s.deliver b).stephz = s.stephz := rfl
@[simp] theorem deliver_freq0 (b : Byte) : (s.deliver b).freq0 = s.freq0 := rfl
@[simp] theorem deliver_freq1 (b : Byte) : (s.deliver b).freq1 = s.freq1 := rfl
@[simp] theorem deliver_tickcnt (b : Byte) : (s.deliver b).tickcnt = s.tickcnt := rfl
@[simp] theorem deliver_tstart (b : Byte) : (s.deliver b).tstart = s.tstart := rfl
@[simp] theorem deliver_tstop (b : Byte) : (s.deliver b).tstop = s.tstop := rfl
@[simp] theorem deliver_tblidx (b : Byte) : (s.deliver b).tblidx = s.tblidx := rfl
@[simp] theorem deliver_pwmcnt (b : Byte) : (s.deliver b).pwmcnt = s.pwmcnt := rfl
@[simp] theorem deliver_dutyact0 (b : Byte) : (s.deliver b).dutyact0 = s.dutyact0 := rfl
@[simp] theorem deliver_dutyact1 (b : Byte) : (s.deliver b).dutyact1 = s.dutyact1 := rfl
@[simp] theorem deliver_pend (b : Byte) : (s.deliver b).pend = s.pend := rfl
@[simp] theorem deliver_cfg (b : Byte) : (s.deliver b).cfg = s.cfg := rfl
@[simp] theorem deliver_input (b : Byte) : (s.deliver b).input = s.input := rfl
@[simp] theorem deliver_out (b : Byte) : (s.deliver b).out = { s.out with hRdata := b } := rfl
@[simp] theorem deliver_refusedWhy (b : Byte) : (s.deliver b).refusedWhy = s.refusedWhy := rfl

/-! `State.raiseRefused` -/

@[simp] theorem raiseRefused_phacc0 (w : RefusedReason) : (s.raiseRefused w).phacc0 = s.phacc0 := rfl
@[simp] theorem raiseRefused_phacc1 (w : RefusedReason) : (s.raiseRefused w).phacc1 = s.phacc1 := rfl
@[simp] theorem raiseRefused_phinc0 (w : RefusedReason) : (s.raiseRefused w).phinc0 = s.phinc0 := rfl
@[simp] theorem raiseRefused_phinc1 (w : RefusedReason) : (s.raiseRefused w).phinc1 = s.phinc1 := rfl
@[simp] theorem raiseRefused_duty0 (w : RefusedReason) : (s.raiseRefused w).duty0 = s.duty0 := rfl
@[simp] theorem raiseRefused_duty1 (w : RefusedReason) : (s.raiseRefused w).duty1 = s.duty1 := rfl
@[simp] theorem raiseRefused_eng (w : RefusedReason) : (s.raiseRefused w).eng = s.eng := rfl
@[simp] theorem raiseRefused_ie (w : RefusedReason) : (s.raiseRefused w).ie = s.ie := rfl
@[simp] theorem raiseRefused_cfgValid (w : RefusedReason) : (s.raiseRefused w).cfgValid = s.cfgValid := rfl
@[simp] theorem raiseRefused_cfgErr (w : RefusedReason) : (s.raiseRefused w).cfgErr = s.cfgErr := rfl
@[simp] theorem raiseRefused_refused (w : RefusedReason) : (s.raiseRefused w).refused = true := rfl
@[simp] theorem raiseRefused_tbdiv (w : RefusedReason) : (s.raiseRefused w).tbdiv = s.tbdiv := rfl
@[simp] theorem raiseRefused_pre (w : RefusedReason) : (s.raiseRefused w).pre = s.pre := rfl
@[simp] theorem raiseRefused_tbcnt (w : RefusedReason) : (s.raiseRefused w).tbcnt = s.tbcnt := rfl
@[simp] theorem raiseRefused_clkrate (w : RefusedReason) : (s.raiseRefused w).clkrate = s.clkrate := rfl
@[simp] theorem raiseRefused_tgtrate (w : RefusedReason) : (s.raiseRefused w).tgtrate = s.tgtrate := rfl
@[simp] theorem raiseRefused_stephz (w : RefusedReason) : (s.raiseRefused w).stephz = s.stephz := rfl
@[simp] theorem raiseRefused_freq0 (w : RefusedReason) : (s.raiseRefused w).freq0 = s.freq0 := rfl
@[simp] theorem raiseRefused_freq1 (w : RefusedReason) : (s.raiseRefused w).freq1 = s.freq1 := rfl
@[simp] theorem raiseRefused_tickcnt (w : RefusedReason) : (s.raiseRefused w).tickcnt = s.tickcnt := rfl
@[simp] theorem raiseRefused_tstart (w : RefusedReason) : (s.raiseRefused w).tstart = s.tstart := rfl
@[simp] theorem raiseRefused_tstop (w : RefusedReason) : (s.raiseRefused w).tstop = s.tstop := rfl
@[simp] theorem raiseRefused_tblidx (w : RefusedReason) : (s.raiseRefused w).tblidx = s.tblidx := rfl
@[simp] theorem raiseRefused_pwmcnt (w : RefusedReason) : (s.raiseRefused w).pwmcnt = s.pwmcnt := rfl
@[simp] theorem raiseRefused_dutyact0 (w : RefusedReason) : (s.raiseRefused w).dutyact0 = s.dutyact0 := rfl
@[simp] theorem raiseRefused_dutyact1 (w : RefusedReason) : (s.raiseRefused w).dutyact1 = s.dutyact1 := rfl
@[simp] theorem raiseRefused_pend (w : RefusedReason) : (s.raiseRefused w).pend = s.pend := rfl
@[simp] theorem raiseRefused_cfg (w : RefusedReason) : (s.raiseRefused w).cfg = s.cfg := rfl
@[simp] theorem raiseRefused_input (w : RefusedReason) : (s.raiseRefused w).input = s.input := rfl
@[simp] theorem raiseRefused_out (w : RefusedReason) : (s.raiseRefused w).out = s.out := rfl
@[simp] theorem raiseRefused_refusedWhy (w : RefusedReason) : (s.raiseRefused w).refusedWhy = some w := rfl

/-! `State.latchTick` -/

@[simp] theorem latchTick_phacc0 (v : Bool) : (s.latchTick v).phacc0 = s.phacc0 := rfl
@[simp] theorem latchTick_phacc1 (v : Bool) : (s.latchTick v).phacc1 = s.phacc1 := rfl
@[simp] theorem latchTick_phinc0 (v : Bool) : (s.latchTick v).phinc0 = s.phinc0 := rfl
@[simp] theorem latchTick_phinc1 (v : Bool) : (s.latchTick v).phinc1 = s.phinc1 := rfl
@[simp] theorem latchTick_duty0 (v : Bool) : (s.latchTick v).duty0 = s.duty0 := rfl
@[simp] theorem latchTick_duty1 (v : Bool) : (s.latchTick v).duty1 = s.duty1 := rfl
@[simp] theorem latchTick_eng (v : Bool) : (s.latchTick v).eng = s.eng := rfl
@[simp] theorem latchTick_ie (v : Bool) : (s.latchTick v).ie = s.ie := rfl
@[simp] theorem latchTick_cfgValid (v : Bool) : (s.latchTick v).cfgValid = s.cfgValid := rfl
@[simp] theorem latchTick_cfgErr (v : Bool) : (s.latchTick v).cfgErr = s.cfgErr := rfl
@[simp] theorem latchTick_refused (v : Bool) : (s.latchTick v).refused = s.refused := rfl
@[simp] theorem latchTick_tbdiv (v : Bool) : (s.latchTick v).tbdiv = s.tbdiv := rfl
@[simp] theorem latchTick_pre (v : Bool) : (s.latchTick v).pre = s.pre := rfl
@[simp] theorem latchTick_tbcnt (v : Bool) : (s.latchTick v).tbcnt = s.tbcnt := rfl
@[simp] theorem latchTick_clkrate (v : Bool) : (s.latchTick v).clkrate = s.clkrate := rfl
@[simp] theorem latchTick_tgtrate (v : Bool) : (s.latchTick v).tgtrate = s.tgtrate := rfl
@[simp] theorem latchTick_stephz (v : Bool) : (s.latchTick v).stephz = s.stephz := rfl
@[simp] theorem latchTick_freq0 (v : Bool) : (s.latchTick v).freq0 = s.freq0 := rfl
@[simp] theorem latchTick_freq1 (v : Bool) : (s.latchTick v).freq1 = s.freq1 := rfl
@[simp] theorem latchTick_tickcnt (v : Bool) : (s.latchTick v).tickcnt = s.tickcnt := rfl
@[simp] theorem latchTick_tstart (v : Bool) : (s.latchTick v).tstart = s.tstart := rfl
@[simp] theorem latchTick_tstop (v : Bool) : (s.latchTick v).tstop = s.tstop := rfl
@[simp] theorem latchTick_tblidx (v : Bool) : (s.latchTick v).tblidx = s.tblidx := rfl
@[simp] theorem latchTick_pwmcnt (v : Bool) : (s.latchTick v).pwmcnt = s.pwmcnt := rfl
@[simp] theorem latchTick_dutyact0 (v : Bool) : (s.latchTick v).dutyact0 = s.dutyact0 := rfl
@[simp] theorem latchTick_dutyact1 (v : Bool) : (s.latchTick v).dutyact1 = s.dutyact1 := rfl
@[simp] theorem latchTick_pend (v : Bool) : (s.latchTick v).pend = (s.pend || (v && s.ie)) := rfl
@[simp] theorem latchTick_cfg (v : Bool) : (s.latchTick v).cfg = s.cfg := rfl
@[simp] theorem latchTick_input (v : Bool) : (s.latchTick v).input = s.input := rfl
@[simp] theorem latchTick_out (v : Bool) : (s.latchTick v).out = s.out := rfl
@[simp] theorem latchTick_refusedWhy (v : Bool) : (s.latchTick v).refusedWhy = s.refusedWhy := rfl

/-! `State.enterTick` -/

@[simp] theorem enterTick_phacc0 : (s.enterTick).phacc0 = s.phacc0 := rfl
@[simp] theorem enterTick_phacc1 : (s.enterTick).phacc1 = s.phacc1 := rfl
@[simp] theorem enterTick_phinc0 : (s.enterTick).phinc0 = s.phinc0 := rfl
@[simp] theorem enterTick_phinc1 : (s.enterTick).phinc1 = s.phinc1 := rfl
@[simp] theorem enterTick_duty0 : (s.enterTick).duty0 = s.duty0 := rfl
@[simp] theorem enterTick_duty1 : (s.enterTick).duty1 = s.duty1 := rfl
@[simp] theorem enterTick_eng : (s.enterTick).eng = Eng.t0 := rfl
@[simp] theorem enterTick_ie : (s.enterTick).ie = s.ie := rfl
@[simp] theorem enterTick_cfgValid : (s.enterTick).cfgValid = s.cfgValid := rfl
@[simp] theorem enterTick_cfgErr : (s.enterTick).cfgErr = s.cfgErr := rfl
@[simp] theorem enterTick_refused : (s.enterTick).refused = s.refused := rfl
@[simp] theorem enterTick_tbdiv : (s.enterTick).tbdiv = s.tbdiv := rfl
@[simp] theorem enterTick_pre : (s.enterTick).pre = s.pre := rfl
@[simp] theorem enterTick_tbcnt : (s.enterTick).tbcnt = s.tbcnt := rfl
@[simp] theorem enterTick_clkrate : (s.enterTick).clkrate = s.clkrate := rfl
@[simp] theorem enterTick_tgtrate : (s.enterTick).tgtrate = s.tgtrate := rfl
@[simp] theorem enterTick_stephz : (s.enterTick).stephz = s.stephz := rfl
@[simp] theorem enterTick_freq0 : (s.enterTick).freq0 = s.freq0 := rfl
@[simp] theorem enterTick_freq1 : (s.enterTick).freq1 = s.freq1 := rfl
@[simp] theorem enterTick_tickcnt : (s.enterTick).tickcnt = s.tickcnt := rfl
@[simp] theorem enterTick_tstart : (s.enterTick).tstart = s.tstart := rfl
@[simp] theorem enterTick_tstop : (s.enterTick).tstop = s.tstop := rfl
@[simp] theorem enterTick_tblidx : (s.enterTick).tblidx = s.tblidx := rfl
@[simp] theorem enterTick_pwmcnt : (s.enterTick).pwmcnt = s.pwmcnt := rfl
@[simp] theorem enterTick_dutyact0 : (s.enterTick).dutyact0 = s.dutyact0 := rfl
@[simp] theorem enterTick_dutyact1 : (s.enterTick).dutyact1 = s.dutyact1 := rfl
@[simp] theorem enterTick_pend : (s.enterTick).pend = false := rfl
@[simp] theorem enterTick_cfg : (s.enterTick).cfg = s.cfg := rfl
@[simp] theorem enterTick_input : (s.enterTick).input = s.input := rfl
@[simp] theorem enterTick_out : (s.enterTick).out = s.out := rfl
@[simp] theorem enterTick_refusedWhy : (s.enterTick).refusedWhy = s.refusedWhy := rfl

/-! `State.returnFromTick` -/

@[simp] theorem returnFromTick_phacc0 : (s.returnFromTick).phacc0 = s.phacc0 := rfl
@[simp] theorem returnFromTick_phacc1 : (s.returnFromTick).phacc1 = s.phacc1 := rfl
@[simp] theorem returnFromTick_phinc0 : (s.returnFromTick).phinc0 = s.phinc0 := rfl
@[simp] theorem returnFromTick_phinc1 : (s.returnFromTick).phinc1 = s.phinc1 := rfl
@[simp] theorem returnFromTick_duty0 : (s.returnFromTick).duty0 = s.duty0 := rfl
@[simp] theorem returnFromTick_duty1 : (s.returnFromTick).duty1 = s.duty1 := rfl
@[simp] theorem returnFromTick_eng : (s.returnFromTick).eng = Eng.idle := rfl
@[simp] theorem returnFromTick_ie : (s.returnFromTick).ie = s.ie := rfl
@[simp] theorem returnFromTick_cfgValid : (s.returnFromTick).cfgValid = s.cfgValid := rfl
@[simp] theorem returnFromTick_cfgErr : (s.returnFromTick).cfgErr = s.cfgErr := rfl
@[simp] theorem returnFromTick_refused : (s.returnFromTick).refused = s.refused := rfl
@[simp] theorem returnFromTick_tbdiv : (s.returnFromTick).tbdiv = s.tbdiv := rfl
@[simp] theorem returnFromTick_pre : (s.returnFromTick).pre = s.pre := rfl
@[simp] theorem returnFromTick_tbcnt : (s.returnFromTick).tbcnt = s.tbcnt := rfl
@[simp] theorem returnFromTick_clkrate : (s.returnFromTick).clkrate = s.clkrate := rfl
@[simp] theorem returnFromTick_tgtrate : (s.returnFromTick).tgtrate = s.tgtrate := rfl
@[simp] theorem returnFromTick_stephz : (s.returnFromTick).stephz = s.stephz := rfl
@[simp] theorem returnFromTick_freq0 : (s.returnFromTick).freq0 = s.freq0 := rfl
@[simp] theorem returnFromTick_freq1 : (s.returnFromTick).freq1 = s.freq1 := rfl
@[simp] theorem returnFromTick_tickcnt : (s.returnFromTick).tickcnt = s.tickcnt := rfl
@[simp] theorem returnFromTick_tstart : (s.returnFromTick).tstart = s.tstart := rfl
@[simp] theorem returnFromTick_tstop : (s.returnFromTick).tstop = s.tstop := rfl
@[simp] theorem returnFromTick_tblidx : (s.returnFromTick).tblidx = s.tblidx := rfl
@[simp] theorem returnFromTick_pwmcnt : (s.returnFromTick).pwmcnt = s.pwmcnt := rfl
@[simp] theorem returnFromTick_dutyact0 : (s.returnFromTick).dutyact0 = s.dutyact0 := rfl
@[simp] theorem returnFromTick_dutyact1 : (s.returnFromTick).dutyact1 = s.dutyact1 := rfl
@[simp] theorem returnFromTick_pend : (s.returnFromTick).pend = s.pend := rfl
@[simp] theorem returnFromTick_cfg : (s.returnFromTick).cfg = s.cfg := rfl
@[simp] theorem returnFromTick_input : (s.returnFromTick).input = s.input := rfl
@[simp] theorem returnFromTick_out : (s.returnFromTick).out = s.out := rfl
@[simp] theorem returnFromTick_refusedWhy : (s.returnFromTick).refusedWhy = s.refusedWhy := rfl

/-! `State.recordStart` -/

@[simp] theorem recordStart_phacc0 : (s.recordStart).phacc0 = s.phacc0 := rfl
@[simp] theorem recordStart_phacc1 : (s.recordStart).phacc1 = s.phacc1 := rfl
@[simp] theorem recordStart_phinc0 : (s.recordStart).phinc0 = s.phinc0 := rfl
@[simp] theorem recordStart_phinc1 : (s.recordStart).phinc1 = s.phinc1 := rfl
@[simp] theorem recordStart_duty0 : (s.recordStart).duty0 = s.duty0 := rfl
@[simp] theorem recordStart_duty1 : (s.recordStart).duty1 = s.duty1 := rfl
@[simp] theorem recordStart_eng : (s.recordStart).eng = Eng.ch0 := rfl
@[simp] theorem recordStart_ie : (s.recordStart).ie = s.ie := rfl
@[simp] theorem recordStart_cfgValid : (s.recordStart).cfgValid = s.cfgValid := rfl
@[simp] theorem recordStart_cfgErr : (s.recordStart).cfgErr = s.cfgErr := rfl
@[simp] theorem recordStart_refused : (s.recordStart).refused = s.refused := rfl
@[simp] theorem recordStart_tbdiv : (s.recordStart).tbdiv = s.tbdiv := rfl
@[simp] theorem recordStart_pre : (s.recordStart).pre = s.pre := rfl
@[simp] theorem recordStart_tbcnt : (s.recordStart).tbcnt = s.tbcnt := rfl
@[simp] theorem recordStart_clkrate : (s.recordStart).clkrate = s.clkrate := rfl
@[simp] theorem recordStart_tgtrate : (s.recordStart).tgtrate = s.tgtrate := rfl
@[simp] theorem recordStart_stephz : (s.recordStart).stephz = s.stephz := rfl
@[simp] theorem recordStart_freq0 : (s.recordStart).freq0 = s.freq0 := rfl
@[simp] theorem recordStart_freq1 : (s.recordStart).freq1 = s.freq1 := rfl
@[simp] theorem recordStart_tickcnt : (s.recordStart).tickcnt = s.tickcnt := rfl
@[simp] theorem recordStart_tstart : (s.recordStart).tstart = s.tbcnt := rfl
@[simp] theorem recordStart_tstop : (s.recordStart).tstop = s.tstop := rfl
@[simp] theorem recordStart_tblidx : (s.recordStart).tblidx = s.tblidx := rfl
@[simp] theorem recordStart_pwmcnt : (s.recordStart).pwmcnt = s.pwmcnt := rfl
@[simp] theorem recordStart_dutyact0 : (s.recordStart).dutyact0 = s.dutyact0 := rfl
@[simp] theorem recordStart_dutyact1 : (s.recordStart).dutyact1 = s.dutyact1 := rfl
@[simp] theorem recordStart_pend : (s.recordStart).pend = s.pend := rfl
@[simp] theorem recordStart_cfg : (s.recordStart).cfg = s.cfg := rfl
@[simp] theorem recordStart_input : (s.recordStart).input = s.input := rfl
@[simp] theorem recordStart_out : (s.recordStart).out = s.out := rfl
@[simp] theorem recordStart_refusedWhy : (s.recordStart).refusedWhy = s.refusedWhy := rfl

/-! `State.advanceChannel0` -/

@[simp] theorem advanceChannel0_phacc0 : (s.advanceChannel0).phacc0 = phaseStep s.phacc0 s.phinc0 := rfl
@[simp] theorem advanceChannel0_phacc1 : (s.advanceChannel0).phacc1 = s.phacc1 := rfl
@[simp] theorem advanceChannel0_phinc0 : (s.advanceChannel0).phinc0 = s.phinc0 := rfl
@[simp] theorem advanceChannel0_phinc1 : (s.advanceChannel0).phinc1 = s.phinc1 := rfl
@[simp] theorem advanceChannel0_duty0 : (s.advanceChannel0).duty0 = sampleOf s.cfg (phaseStep s.phacc0 s.phinc0) := rfl
@[simp] theorem advanceChannel0_duty1 : (s.advanceChannel0).duty1 = s.duty1 := rfl
@[simp] theorem advanceChannel0_eng : (s.advanceChannel0).eng = Eng.ch1 := rfl
@[simp] theorem advanceChannel0_ie : (s.advanceChannel0).ie = s.ie := rfl
@[simp] theorem advanceChannel0_cfgValid : (s.advanceChannel0).cfgValid = s.cfgValid := rfl
@[simp] theorem advanceChannel0_cfgErr : (s.advanceChannel0).cfgErr = s.cfgErr := rfl
@[simp] theorem advanceChannel0_refused : (s.advanceChannel0).refused = s.refused := rfl
@[simp] theorem advanceChannel0_tbdiv : (s.advanceChannel0).tbdiv = s.tbdiv := rfl
@[simp] theorem advanceChannel0_pre : (s.advanceChannel0).pre = s.pre := rfl
@[simp] theorem advanceChannel0_tbcnt : (s.advanceChannel0).tbcnt = s.tbcnt := rfl
@[simp] theorem advanceChannel0_clkrate : (s.advanceChannel0).clkrate = s.clkrate := rfl
@[simp] theorem advanceChannel0_tgtrate : (s.advanceChannel0).tgtrate = s.tgtrate := rfl
@[simp] theorem advanceChannel0_stephz : (s.advanceChannel0).stephz = s.stephz := rfl
@[simp] theorem advanceChannel0_freq0 : (s.advanceChannel0).freq0 = s.freq0 := rfl
@[simp] theorem advanceChannel0_freq1 : (s.advanceChannel0).freq1 = s.freq1 := rfl
@[simp] theorem advanceChannel0_tickcnt : (s.advanceChannel0).tickcnt = s.tickcnt := rfl
@[simp] theorem advanceChannel0_tstart : (s.advanceChannel0).tstart = s.tstart := rfl
@[simp] theorem advanceChannel0_tstop : (s.advanceChannel0).tstop = s.tstop := rfl
@[simp] theorem advanceChannel0_tblidx : (s.advanceChannel0).tblidx = s.tblidx := rfl
@[simp] theorem advanceChannel0_pwmcnt : (s.advanceChannel0).pwmcnt = s.pwmcnt := rfl
@[simp] theorem advanceChannel0_dutyact0 : (s.advanceChannel0).dutyact0 = s.dutyact0 := rfl
@[simp] theorem advanceChannel0_dutyact1 : (s.advanceChannel0).dutyact1 = s.dutyact1 := rfl
@[simp] theorem advanceChannel0_pend : (s.advanceChannel0).pend = s.pend := rfl
@[simp] theorem advanceChannel0_cfg : (s.advanceChannel0).cfg = s.cfg := rfl
@[simp] theorem advanceChannel0_input : (s.advanceChannel0).input = s.input := rfl
@[simp] theorem advanceChannel0_out : (s.advanceChannel0).out = s.out := rfl
@[simp] theorem advanceChannel0_refusedWhy : (s.advanceChannel0).refusedWhy = s.refusedWhy := rfl

/-! `State.advanceChannel1` -/

@[simp] theorem advanceChannel1_phacc0 : (s.advanceChannel1).phacc0 = s.phacc0 := rfl
@[simp] theorem advanceChannel1_phacc1 : (s.advanceChannel1).phacc1 = phaseStep s.phacc1 s.phinc1 := rfl
@[simp] theorem advanceChannel1_phinc0 : (s.advanceChannel1).phinc0 = s.phinc0 := rfl
@[simp] theorem advanceChannel1_phinc1 : (s.advanceChannel1).phinc1 = s.phinc1 := rfl
@[simp] theorem advanceChannel1_duty0 : (s.advanceChannel1).duty0 = s.duty0 := rfl
@[simp] theorem advanceChannel1_duty1 : (s.advanceChannel1).duty1 = sampleOf s.cfg (phaseStep s.phacc1 s.phinc1) := rfl
@[simp] theorem advanceChannel1_eng : (s.advanceChannel1).eng = Eng.t1 := rfl
@[simp] theorem advanceChannel1_ie : (s.advanceChannel1).ie = s.ie := rfl
@[simp] theorem advanceChannel1_cfgValid : (s.advanceChannel1).cfgValid = s.cfgValid := rfl
@[simp] theorem advanceChannel1_cfgErr : (s.advanceChannel1).cfgErr = s.cfgErr := rfl
@[simp] theorem advanceChannel1_refused : (s.advanceChannel1).refused = s.refused := rfl
@[simp] theorem advanceChannel1_tbdiv : (s.advanceChannel1).tbdiv = s.tbdiv := rfl
@[simp] theorem advanceChannel1_pre : (s.advanceChannel1).pre = s.pre := rfl
@[simp] theorem advanceChannel1_tbcnt : (s.advanceChannel1).tbcnt = s.tbcnt := rfl
@[simp] theorem advanceChannel1_clkrate : (s.advanceChannel1).clkrate = s.clkrate := rfl
@[simp] theorem advanceChannel1_tgtrate : (s.advanceChannel1).tgtrate = s.tgtrate := rfl
@[simp] theorem advanceChannel1_stephz : (s.advanceChannel1).stephz = s.stephz := rfl
@[simp] theorem advanceChannel1_freq0 : (s.advanceChannel1).freq0 = s.freq0 := rfl
@[simp] theorem advanceChannel1_freq1 : (s.advanceChannel1).freq1 = s.freq1 := rfl
@[simp] theorem advanceChannel1_tickcnt : (s.advanceChannel1).tickcnt = s.tickcnt := rfl
@[simp] theorem advanceChannel1_tstart : (s.advanceChannel1).tstart = s.tstart := rfl
@[simp] theorem advanceChannel1_tstop : (s.advanceChannel1).tstop = s.tstop := rfl
@[simp] theorem advanceChannel1_tblidx : (s.advanceChannel1).tblidx = s.tblidx := rfl
@[simp] theorem advanceChannel1_pwmcnt : (s.advanceChannel1).pwmcnt = s.pwmcnt := rfl
@[simp] theorem advanceChannel1_dutyact0 : (s.advanceChannel1).dutyact0 = s.dutyact0 := rfl
@[simp] theorem advanceChannel1_dutyact1 : (s.advanceChannel1).dutyact1 = s.dutyact1 := rfl
@[simp] theorem advanceChannel1_pend : (s.advanceChannel1).pend = s.pend := rfl
@[simp] theorem advanceChannel1_cfg : (s.advanceChannel1).cfg = s.cfg := rfl
@[simp] theorem advanceChannel1_input : (s.advanceChannel1).input = s.input := rfl
@[simp] theorem advanceChannel1_out : (s.advanceChannel1).out = s.out := rfl
@[simp] theorem advanceChannel1_refusedWhy : (s.advanceChannel1).refusedWhy = s.refusedWhy := rfl

/-! `State.recordStop` -/

@[simp] theorem recordStop_phacc0 : (s.recordStop).phacc0 = s.phacc0 := rfl
@[simp] theorem recordStop_phacc1 : (s.recordStop).phacc1 = s.phacc1 := rfl
@[simp] theorem recordStop_phinc0 : (s.recordStop).phinc0 = s.phinc0 := rfl
@[simp] theorem recordStop_phinc1 : (s.recordStop).phinc1 = s.phinc1 := rfl
@[simp] theorem recordStop_duty0 : (s.recordStop).duty0 = s.duty0 := rfl
@[simp] theorem recordStop_duty1 : (s.recordStop).duty1 = s.duty1 := rfl
@[simp] theorem recordStop_eng : (s.recordStop).eng = Eng.cnt := rfl
@[simp] theorem recordStop_ie : (s.recordStop).ie = s.ie := rfl
@[simp] theorem recordStop_cfgValid : (s.recordStop).cfgValid = s.cfgValid := rfl
@[simp] theorem recordStop_cfgErr : (s.recordStop).cfgErr = s.cfgErr := rfl
@[simp] theorem recordStop_refused : (s.recordStop).refused = s.refused := rfl
@[simp] theorem recordStop_tbdiv : (s.recordStop).tbdiv = s.tbdiv := rfl
@[simp] theorem recordStop_pre : (s.recordStop).pre = s.pre := rfl
@[simp] theorem recordStop_tbcnt : (s.recordStop).tbcnt = s.tbcnt := rfl
@[simp] theorem recordStop_clkrate : (s.recordStop).clkrate = s.clkrate := rfl
@[simp] theorem recordStop_tgtrate : (s.recordStop).tgtrate = s.tgtrate := rfl
@[simp] theorem recordStop_stephz : (s.recordStop).stephz = s.stephz := rfl
@[simp] theorem recordStop_freq0 : (s.recordStop).freq0 = s.freq0 := rfl
@[simp] theorem recordStop_freq1 : (s.recordStop).freq1 = s.freq1 := rfl
@[simp] theorem recordStop_tickcnt : (s.recordStop).tickcnt = s.tickcnt := rfl
@[simp] theorem recordStop_tstart : (s.recordStop).tstart = s.tstart := rfl
@[simp] theorem recordStop_tstop : (s.recordStop).tstop = s.tbcnt := rfl
@[simp] theorem recordStop_tblidx : (s.recordStop).tblidx = s.tblidx := rfl
@[simp] theorem recordStop_pwmcnt : (s.recordStop).pwmcnt = s.pwmcnt := rfl
@[simp] theorem recordStop_dutyact0 : (s.recordStop).dutyact0 = s.dutyact0 := rfl
@[simp] theorem recordStop_dutyact1 : (s.recordStop).dutyact1 = s.dutyact1 := rfl
@[simp] theorem recordStop_pend : (s.recordStop).pend = s.pend := rfl
@[simp] theorem recordStop_cfg : (s.recordStop).cfg = s.cfg := rfl
@[simp] theorem recordStop_input : (s.recordStop).input = s.input := rfl
@[simp] theorem recordStop_out : (s.recordStop).out = s.out := rfl
@[simp] theorem recordStop_refusedWhy : (s.recordStop).refusedWhy = s.refusedWhy := rfl

/-! `State.countTick` -/

@[simp] theorem countTick_phacc0 : (s.countTick).phacc0 = s.phacc0 := rfl
@[simp] theorem countTick_phacc1 : (s.countTick).phacc1 = s.phacc1 := rfl
@[simp] theorem countTick_phinc0 : (s.countTick).phinc0 = s.phinc0 := rfl
@[simp] theorem countTick_phinc1 : (s.countTick).phinc1 = s.phinc1 := rfl
@[simp] theorem countTick_duty0 : (s.countTick).duty0 = s.duty0 := rfl
@[simp] theorem countTick_duty1 : (s.countTick).duty1 = s.duty1 := rfl
@[simp] theorem countTick_eng : (s.countTick).eng = s.eng := rfl
@[simp] theorem countTick_ie : (s.countTick).ie = s.ie := rfl
@[simp] theorem countTick_cfgValid : (s.countTick).cfgValid = s.cfgValid := rfl
@[simp] theorem countTick_cfgErr : (s.countTick).cfgErr = s.cfgErr := rfl
@[simp] theorem countTick_refused : (s.countTick).refused = s.refused := rfl
@[simp] theorem countTick_tbdiv : (s.countTick).tbdiv = s.tbdiv := rfl
@[simp] theorem countTick_pre : (s.countTick).pre = s.pre := rfl
@[simp] theorem countTick_tbcnt : (s.countTick).tbcnt = s.tbcnt := rfl
@[simp] theorem countTick_clkrate : (s.countTick).clkrate = s.clkrate := rfl
@[simp] theorem countTick_tgtrate : (s.countTick).tgtrate = s.tgtrate := rfl
@[simp] theorem countTick_stephz : (s.countTick).stephz = s.stephz := rfl
@[simp] theorem countTick_freq0 : (s.countTick).freq0 = s.freq0 := rfl
@[simp] theorem countTick_freq1 : (s.countTick).freq1 = s.freq1 := rfl
@[simp] theorem countTick_tickcnt : (s.countTick).tickcnt = s.tickcnt + 1 := rfl
@[simp] theorem countTick_tstart : (s.countTick).tstart = s.tstart := rfl
@[simp] theorem countTick_tstop : (s.countTick).tstop = s.tstop := rfl
@[simp] theorem countTick_tblidx : (s.countTick).tblidx = s.tblidx := rfl
@[simp] theorem countTick_pwmcnt : (s.countTick).pwmcnt = s.pwmcnt := rfl
@[simp] theorem countTick_dutyact0 : (s.countTick).dutyact0 = s.dutyact0 := rfl
@[simp] theorem countTick_dutyact1 : (s.countTick).dutyact1 = s.dutyact1 := rfl
@[simp] theorem countTick_pend : (s.countTick).pend = s.pend := rfl
@[simp] theorem countTick_cfg : (s.countTick).cfg = s.cfg := rfl
@[simp] theorem countTick_input : (s.countTick).input = s.input := rfl
@[simp] theorem countTick_out : (s.countTick).out = s.out := rfl
@[simp] theorem countTick_refusedWhy : (s.countTick).refusedWhy = s.refusedWhy := rfl

/-! `State.openCycle` -/

@[simp] theorem openCycle_phacc0 : (s.openCycle).phacc0 = s.phacc0 := rfl
@[simp] theorem openCycle_phacc1 : (s.openCycle).phacc1 = s.phacc1 := rfl
@[simp] theorem openCycle_phinc0 : (s.openCycle).phinc0 = s.phinc0 := rfl
@[simp] theorem openCycle_phinc1 : (s.openCycle).phinc1 = s.phinc1 := rfl
@[simp] theorem openCycle_duty0 : (s.openCycle).duty0 = s.duty0 := rfl
@[simp] theorem openCycle_duty1 : (s.openCycle).duty1 = s.duty1 := rfl
@[simp] theorem openCycle_eng : (s.openCycle).eng = s.eng := rfl
@[simp] theorem openCycle_ie : (s.openCycle).ie = s.ie := rfl
@[simp] theorem openCycle_cfgValid : (s.openCycle).cfgValid = s.cfgValid := rfl
@[simp] theorem openCycle_cfgErr : (s.openCycle).cfgErr = s.cfgErr := rfl
@[simp] theorem openCycle_refused : (s.openCycle).refused = s.refused := rfl
@[simp] theorem openCycle_tbdiv : (s.openCycle).tbdiv = s.tbdiv := rfl
@[simp] theorem openCycle_pre : (s.openCycle).pre = s.pre := rfl
@[simp] theorem openCycle_tbcnt : (s.openCycle).tbcnt = s.tbcnt := rfl
@[simp] theorem openCycle_clkrate : (s.openCycle).clkrate = s.clkrate := rfl
@[simp] theorem openCycle_tgtrate : (s.openCycle).tgtrate = s.tgtrate := rfl
@[simp] theorem openCycle_stephz : (s.openCycle).stephz = s.stephz := rfl
@[simp] theorem openCycle_freq0 : (s.openCycle).freq0 = s.freq0 := rfl
@[simp] theorem openCycle_freq1 : (s.openCycle).freq1 = s.freq1 := rfl
@[simp] theorem openCycle_tickcnt : (s.openCycle).tickcnt = s.tickcnt := rfl
@[simp] theorem openCycle_tstart : (s.openCycle).tstart = s.tstart := rfl
@[simp] theorem openCycle_tstop : (s.openCycle).tstop = s.tstop := rfl
@[simp] theorem openCycle_tblidx : (s.openCycle).tblidx = s.tblidx := rfl
@[simp] theorem openCycle_pwmcnt : (s.openCycle).pwmcnt = s.pwmcnt := rfl
@[simp] theorem openCycle_dutyact0 : (s.openCycle).dutyact0 = s.dutyact0 := rfl
@[simp] theorem openCycle_dutyact1 : (s.openCycle).dutyact1 = s.dutyact1 := rfl
@[simp] theorem openCycle_pend : (s.openCycle).pend = s.pend := rfl
@[simp] theorem openCycle_cfg : (s.openCycle).cfg = s.cfg := rfl
@[simp] theorem openCycle_input : (s.openCycle).input = s.input.tail := rfl
@[simp] theorem openCycle_out : (s.openCycle).out = ⟨hReady s s.presented, 0, s.pwmOut⟩ := rfl
@[simp] theorem openCycle_refusedWhy : (s.openCycle).refusedWhy = s.refusedWhy := rfl

/-! `State.configured` -/

@[simp] theorem configured_phacc0 : (s.configured).phacc0 = s.phacc0 := rfl
@[simp] theorem configured_phacc1 : (s.configured).phacc1 = s.phacc1 := rfl
@[simp] theorem configured_phinc0 : (s.configured).phinc0 = s.phinc0 := rfl
@[simp] theorem configured_phinc1 : (s.configured).phinc1 = s.phinc1 := rfl
@[simp] theorem configured_duty0 : (s.configured).duty0 = s.duty0 := rfl
@[simp] theorem configured_duty1 : (s.configured).duty1 = s.duty1 := rfl
@[simp] theorem configured_eng : (s.configured).eng = s.eng := rfl
@[simp] theorem configured_ie : (s.configured).ie = s.ie := rfl
@[simp] theorem configured_cfgValid : (s.configured).cfgValid = true := rfl
@[simp] theorem configured_cfgErr : (s.configured).cfgErr = false := rfl
@[simp] theorem configured_refused : (s.configured).refused = s.refused := rfl
@[simp] theorem configured_tbdiv : (s.configured).tbdiv = BitVec.ofNat 16 (selectDiv s.cfg s.clkrate.toNat s.tgtrate.toNat) := rfl
@[simp] theorem configured_pre : (s.configured).pre = 0 := rfl
@[simp] theorem configured_tbcnt : (s.configured).tbcnt = 0 := rfl
@[simp] theorem configured_clkrate : (s.configured).clkrate = s.clkrate := rfl
@[simp] theorem configured_tgtrate : (s.configured).tgtrate = s.tgtrate := rfl
@[simp] theorem configured_stephz : (s.configured).stephz = stepsPerHz s.tgtrate := rfl
@[simp] theorem configured_freq0 : (s.configured).freq0 = s.freq0 := rfl
@[simp] theorem configured_freq1 : (s.configured).freq1 = s.freq1 := rfl
@[simp] theorem configured_tickcnt : (s.configured).tickcnt = s.tickcnt := rfl
@[simp] theorem configured_tstart : (s.configured).tstart = s.tstart := rfl
@[simp] theorem configured_tstop : (s.configured).tstop = s.tstop := rfl
@[simp] theorem configured_tblidx : (s.configured).tblidx = s.tblidx := rfl
@[simp] theorem configured_pwmcnt : (s.configured).pwmcnt = s.pwmcnt := rfl
@[simp] theorem configured_dutyact0 : (s.configured).dutyact0 = s.dutyact0 := rfl
@[simp] theorem configured_dutyact1 : (s.configured).dutyact1 = s.dutyact1 := rfl
@[simp] theorem configured_pend : (s.configured).pend = s.pend := rfl
@[simp] theorem configured_cfg : (s.configured).cfg = s.cfg := rfl
@[simp] theorem configured_input : (s.configured).input = s.input := rfl
@[simp] theorem configured_out : (s.configured).out = s.out := rfl
@[simp] theorem configured_refusedWhy : (s.configured).refusedWhy = s.refusedWhy := rfl

/-! `State.dispatchTick` -/

@[simp] theorem dispatchTick_phacc0 : s.dispatchTick.phacc0 = s.phacc0 := by
  unfold State.dispatchTick; split <;> rfl
@[simp] theorem dispatchTick_phacc1 : s.dispatchTick.phacc1 = s.phacc1 := by
  unfold State.dispatchTick; split <;> rfl
@[simp] theorem dispatchTick_phinc0 : s.dispatchTick.phinc0 = s.phinc0 := by
  unfold State.dispatchTick; split <;> rfl
@[simp] theorem dispatchTick_phinc1 : s.dispatchTick.phinc1 = s.phinc1 := by
  unfold State.dispatchTick; split <;> rfl
@[simp] theorem dispatchTick_duty0 : s.dispatchTick.duty0 = s.duty0 := by
  unfold State.dispatchTick; split <;> rfl
@[simp] theorem dispatchTick_duty1 : s.dispatchTick.duty1 = s.duty1 := by
  unfold State.dispatchTick; split <;> rfl
@[simp] theorem dispatchTick_eng : s.dispatchTick.eng = if s.dispatches then Eng.t0 else s.eng := by
  unfold State.dispatchTick; split <;> rfl
@[simp] theorem dispatchTick_ie : s.dispatchTick.ie = s.ie := by
  unfold State.dispatchTick; split <;> rfl
@[simp] theorem dispatchTick_cfgValid : s.dispatchTick.cfgValid = s.cfgValid := by
  unfold State.dispatchTick; split <;> rfl
@[simp] theorem dispatchTick_cfgErr : s.dispatchTick.cfgErr = s.cfgErr := by
  unfold State.dispatchTick; split <;> rfl
@[simp] theorem dispatchTick_refused : s.dispatchTick.refused = s.refused := by
  unfold State.dispatchTick; split <;> rfl
@[simp] theorem dispatchTick_tbdiv : s.dispatchTick.tbdiv = s.tbdiv := by
  unfold State.dispatchTick; split <;> rfl
@[simp] theorem dispatchTick_pre : s.dispatchTick.pre = s.pre := by
  unfold State.dispatchTick; split <;> rfl
@[simp] theorem dispatchTick_tbcnt : s.dispatchTick.tbcnt = s.tbcnt := by
  unfold State.dispatchTick; split <;> rfl
@[simp] theorem dispatchTick_clkrate : s.dispatchTick.clkrate = s.clkrate := by
  unfold State.dispatchTick; split <;> rfl
@[simp] theorem dispatchTick_tgtrate : s.dispatchTick.tgtrate = s.tgtrate := by
  unfold State.dispatchTick; split <;> rfl
@[simp] theorem dispatchTick_stephz : s.dispatchTick.stephz = s.stephz := by
  unfold State.dispatchTick; split <;> rfl
@[simp] theorem dispatchTick_freq0 : s.dispatchTick.freq0 = s.freq0 := by
  unfold State.dispatchTick; split <;> rfl
@[simp] theorem dispatchTick_freq1 : s.dispatchTick.freq1 = s.freq1 := by
  unfold State.dispatchTick; split <;> rfl
@[simp] theorem dispatchTick_tickcnt : s.dispatchTick.tickcnt = s.tickcnt := by
  unfold State.dispatchTick; split <;> rfl
@[simp] theorem dispatchTick_tstart : s.dispatchTick.tstart = s.tstart := by
  unfold State.dispatchTick; split <;> rfl
@[simp] theorem dispatchTick_tstop : s.dispatchTick.tstop = s.tstop := by
  unfold State.dispatchTick; split <;> rfl
@[simp] theorem dispatchTick_tblidx : s.dispatchTick.tblidx = s.tblidx := by
  unfold State.dispatchTick; split <;> rfl
@[simp] theorem dispatchTick_pwmcnt : s.dispatchTick.pwmcnt = s.pwmcnt := by
  unfold State.dispatchTick; split <;> rfl
@[simp] theorem dispatchTick_dutyact0 : s.dispatchTick.dutyact0 = s.dutyact0 := by
  unfold State.dispatchTick; split <;> rfl
@[simp] theorem dispatchTick_dutyact1 : s.dispatchTick.dutyact1 = s.dutyact1 := by
  unfold State.dispatchTick; split <;> rfl
@[simp] theorem dispatchTick_pend : s.dispatchTick.pend = if s.dispatches then false else s.pend := by
  unfold State.dispatchTick; split <;> rfl
@[simp] theorem dispatchTick_cfg : s.dispatchTick.cfg = s.cfg := by
  unfold State.dispatchTick; split <;> rfl
@[simp] theorem dispatchTick_input : s.dispatchTick.input = s.input := by
  unfold State.dispatchTick; split <;> rfl
@[simp] theorem dispatchTick_out : s.dispatchTick.out = s.out := by
  unfold State.dispatchTick; split <;> rfl
@[simp] theorem dispatchTick_refusedWhy : s.dispatchTick.refusedWhy = s.refusedWhy := by
  unfold State.dispatchTick; split <;> rfl

/-! `State.timebaseCount` -/

@[simp] theorem timebaseCount_phacc0 : s.timebaseCount.phacc0 = s.phacc0 := by
  unfold State.timebaseCount; split <;> rfl
@[simp] theorem timebaseCount_phacc1 : s.timebaseCount.phacc1 = s.phacc1 := by
  unfold State.timebaseCount; split <;> rfl
@[simp] theorem timebaseCount_phinc0 : s.timebaseCount.phinc0 = s.phinc0 := by
  unfold State.timebaseCount; split <;> rfl
@[simp] theorem timebaseCount_phinc1 : s.timebaseCount.phinc1 = s.phinc1 := by
  unfold State.timebaseCount; split <;> rfl
@[simp] theorem timebaseCount_duty0 : s.timebaseCount.duty0 = s.duty0 := by
  unfold State.timebaseCount; split <;> rfl
@[simp] theorem timebaseCount_duty1 : s.timebaseCount.duty1 = s.duty1 := by
  unfold State.timebaseCount; split <;> rfl
@[simp] theorem timebaseCount_eng : s.timebaseCount.eng = s.eng := by
  unfold State.timebaseCount; split <;> rfl
@[simp] theorem timebaseCount_ie : s.timebaseCount.ie = s.ie := by
  unfold State.timebaseCount; split <;> rfl
@[simp] theorem timebaseCount_cfgValid : s.timebaseCount.cfgValid = s.cfgValid := by
  unfold State.timebaseCount; split <;> rfl
@[simp] theorem timebaseCount_cfgErr : s.timebaseCount.cfgErr = s.cfgErr := by
  unfold State.timebaseCount; split <;> rfl
@[simp] theorem timebaseCount_refused : s.timebaseCount.refused = s.refused := by
  unfold State.timebaseCount; split <;> rfl
@[simp] theorem timebaseCount_tbdiv : s.timebaseCount.tbdiv = s.tbdiv := by
  unfold State.timebaseCount; split <;> rfl
@[simp] theorem timebaseCount_pre : s.timebaseCount.pre = if s.prescalerWraps then 0 else s.pre + 1 := by
  unfold State.timebaseCount; split <;> rfl
@[simp] theorem timebaseCount_tbcnt : s.timebaseCount.tbcnt = if s.prescalerWraps then s.tbcnt + 1 else s.tbcnt := by
  unfold State.timebaseCount; split <;> rfl
@[simp] theorem timebaseCount_clkrate : s.timebaseCount.clkrate = s.clkrate := by
  unfold State.timebaseCount; split <;> rfl
@[simp] theorem timebaseCount_tgtrate : s.timebaseCount.tgtrate = s.tgtrate := by
  unfold State.timebaseCount; split <;> rfl
@[simp] theorem timebaseCount_stephz : s.timebaseCount.stephz = s.stephz := by
  unfold State.timebaseCount; split <;> rfl
@[simp] theorem timebaseCount_freq0 : s.timebaseCount.freq0 = s.freq0 := by
  unfold State.timebaseCount; split <;> rfl
@[simp] theorem timebaseCount_freq1 : s.timebaseCount.freq1 = s.freq1 := by
  unfold State.timebaseCount; split <;> rfl
@[simp] theorem timebaseCount_tickcnt : s.timebaseCount.tickcnt = s.tickcnt := by
  unfold State.timebaseCount; split <;> rfl
@[simp] theorem timebaseCount_tstart : s.timebaseCount.tstart = s.tstart := by
  unfold State.timebaseCount; split <;> rfl
@[simp] theorem timebaseCount_tstop : s.timebaseCount.tstop = s.tstop := by
  unfold State.timebaseCount; split <;> rfl
@[simp] theorem timebaseCount_tblidx : s.timebaseCount.tblidx = s.tblidx := by
  unfold State.timebaseCount; split <;> rfl
@[simp] theorem timebaseCount_pwmcnt : s.timebaseCount.pwmcnt = s.pwmcnt := by
  unfold State.timebaseCount; split <;> rfl
@[simp] theorem timebaseCount_dutyact0 : s.timebaseCount.dutyact0 = s.dutyact0 := by
  unfold State.timebaseCount; split <;> rfl
@[simp] theorem timebaseCount_dutyact1 : s.timebaseCount.dutyact1 = s.dutyact1 := by
  unfold State.timebaseCount; split <;> rfl
@[simp] theorem timebaseCount_pend : s.timebaseCount.pend = s.pend := by
  unfold State.timebaseCount; split <;> rfl
@[simp] theorem timebaseCount_cfg : s.timebaseCount.cfg = s.cfg := by
  unfold State.timebaseCount; split <;> rfl
@[simp] theorem timebaseCount_input : s.timebaseCount.input = s.input := by
  unfold State.timebaseCount; split <;> rfl
@[simp] theorem timebaseCount_out : s.timebaseCount.out = s.out := by
  unfold State.timebaseCount; split <;> rfl
@[simp] theorem timebaseCount_refusedWhy : s.timebaseCount.refusedWhy = s.refusedWhy := by
  unfold State.timebaseCount; split <;> rfl

/-! `State.carrierStep` -/

@[simp] theorem carrierStep_phacc0 : s.carrierStep.phacc0 = s.phacc0 := by
  unfold State.carrierStep; split <;> rfl
@[simp] theorem carrierStep_phacc1 : s.carrierStep.phacc1 = s.phacc1 := by
  unfold State.carrierStep; split <;> rfl
@[simp] theorem carrierStep_phinc0 : s.carrierStep.phinc0 = s.phinc0 := by
  unfold State.carrierStep; split <;> rfl
@[simp] theorem carrierStep_phinc1 : s.carrierStep.phinc1 = s.phinc1 := by
  unfold State.carrierStep; split <;> rfl
@[simp] theorem carrierStep_duty0 : s.carrierStep.duty0 = s.duty0 := by
  unfold State.carrierStep; split <;> rfl
@[simp] theorem carrierStep_duty1 : s.carrierStep.duty1 = s.duty1 := by
  unfold State.carrierStep; split <;> rfl
@[simp] theorem carrierStep_eng : s.carrierStep.eng = s.eng := by
  unfold State.carrierStep; split <;> rfl
@[simp] theorem carrierStep_ie : s.carrierStep.ie = s.ie := by
  unfold State.carrierStep; split <;> rfl
@[simp] theorem carrierStep_cfgValid : s.carrierStep.cfgValid = s.cfgValid := by
  unfold State.carrierStep; split <;> rfl
@[simp] theorem carrierStep_cfgErr : s.carrierStep.cfgErr = s.cfgErr := by
  unfold State.carrierStep; split <;> rfl
@[simp] theorem carrierStep_refused : s.carrierStep.refused = s.refused := by
  unfold State.carrierStep; split <;> rfl
@[simp] theorem carrierStep_tbdiv : s.carrierStep.tbdiv = s.tbdiv := by
  unfold State.carrierStep; split <;> rfl
@[simp] theorem carrierStep_pre : s.carrierStep.pre = s.pre := by
  unfold State.carrierStep; split <;> rfl
@[simp] theorem carrierStep_tbcnt : s.carrierStep.tbcnt = s.tbcnt := by
  unfold State.carrierStep; split <;> rfl
@[simp] theorem carrierStep_clkrate : s.carrierStep.clkrate = s.clkrate := by
  unfold State.carrierStep; split <;> rfl
@[simp] theorem carrierStep_tgtrate : s.carrierStep.tgtrate = s.tgtrate := by
  unfold State.carrierStep; split <;> rfl
@[simp] theorem carrierStep_stephz : s.carrierStep.stephz = s.stephz := by
  unfold State.carrierStep; split <;> rfl
@[simp] theorem carrierStep_freq0 : s.carrierStep.freq0 = s.freq0 := by
  unfold State.carrierStep; split <;> rfl
@[simp] theorem carrierStep_freq1 : s.carrierStep.freq1 = s.freq1 := by
  unfold State.carrierStep; split <;> rfl
@[simp] theorem carrierStep_tickcnt : s.carrierStep.tickcnt = s.tickcnt := by
  unfold State.carrierStep; split <;> rfl
@[simp] theorem carrierStep_tstart : s.carrierStep.tstart = s.tstart := by
  unfold State.carrierStep; split <;> rfl
@[simp] theorem carrierStep_tstop : s.carrierStep.tstop = s.tstop := by
  unfold State.carrierStep; split <;> rfl
@[simp] theorem carrierStep_tblidx : s.carrierStep.tblidx = s.tblidx := by
  unfold State.carrierStep; split <;> rfl
@[simp] theorem carrierStep_pwmcnt : s.carrierStep.pwmcnt = s.pwmcnt + 1 := by
  unfold State.carrierStep; split <;> rfl
@[simp] theorem carrierStep_dutyact0 : s.carrierStep.dutyact0 = if s.pwmcnt = 255 then s.duty0 else s.dutyact0 := by
  unfold State.carrierStep; split <;> rfl
@[simp] theorem carrierStep_dutyact1 : s.carrierStep.dutyact1 = if s.pwmcnt = 255 then s.duty1 else s.dutyact1 := by
  unfold State.carrierStep; split <;> rfl
@[simp] theorem carrierStep_pend : s.carrierStep.pend = s.pend := by
  unfold State.carrierStep; split <;> rfl
@[simp] theorem carrierStep_cfg : s.carrierStep.cfg = s.cfg := by
  unfold State.carrierStep; split <;> rfl
@[simp] theorem carrierStep_input : s.carrierStep.input = s.input := by
  unfold State.carrierStep; split <;> rfl
@[simp] theorem carrierStep_out : s.carrierStep.out = s.out := by
  unfold State.carrierStep; split <;> rfl
@[simp] theorem carrierStep_refusedWhy : s.carrierStep.refusedWhy = s.refusedWhy := by
  unfold State.carrierStep; split <;> rfl

/-! `State.resetWith`: every register at its reset value. -/

@[simp] theorem resetWith_phacc0 (c : Config) (i : List PortIn) (o : PortOut) : (State.resetWith c i o).phacc0 = 0 := rfl
@[simp] theorem resetWith_phacc1 (c : Config) (i : List PortIn) (o : PortOut) : (State.resetWith c i o).phacc1 = 0 := rfl
@[simp] theorem resetWith_phinc0 (c : Config) (i : List PortIn) (o : PortOut) : (State.resetWith c i o).phinc0 = 0 := rfl
@[simp] theorem resetWith_phinc1 (c : Config) (i : List PortIn) (o : PortOut) : (State.resetWith c i o).phinc1 = 0 := rfl
@[simp] theorem resetWith_duty0 (c : Config) (i : List PortIn) (o : PortOut) : (State.resetWith c i o).duty0 = 0 := rfl
@[simp] theorem resetWith_duty1 (c : Config) (i : List PortIn) (o : PortOut) : (State.resetWith c i o).duty1 = 0 := rfl
@[simp] theorem resetWith_eng (c : Config) (i : List PortIn) (o : PortOut) : (State.resetWith c i o).eng = Eng.idle := rfl
@[simp] theorem resetWith_ie (c : Config) (i : List PortIn) (o : PortOut) : (State.resetWith c i o).ie = false := rfl
@[simp] theorem resetWith_cfgValid (c : Config) (i : List PortIn) (o : PortOut) : (State.resetWith c i o).cfgValid = false := rfl
@[simp] theorem resetWith_cfgErr (c : Config) (i : List PortIn) (o : PortOut) : (State.resetWith c i o).cfgErr = false := rfl
@[simp] theorem resetWith_refused (c : Config) (i : List PortIn) (o : PortOut) : (State.resetWith c i o).refused = false := rfl
@[simp] theorem resetWith_tbdiv (c : Config) (i : List PortIn) (o : PortOut) : (State.resetWith c i o).tbdiv = BitVec.ofNat 16 c.firstDivisor := rfl
@[simp] theorem resetWith_pre (c : Config) (i : List PortIn) (o : PortOut) : (State.resetWith c i o).pre = 0 := rfl
@[simp] theorem resetWith_tbcnt (c : Config) (i : List PortIn) (o : PortOut) : (State.resetWith c i o).tbcnt = 0 := rfl
@[simp] theorem resetWith_clkrate (c : Config) (i : List PortIn) (o : PortOut) : (State.resetWith c i o).clkrate = 0 := rfl
@[simp] theorem resetWith_tgtrate (c : Config) (i : List PortIn) (o : PortOut) : (State.resetWith c i o).tgtrate = 0 := rfl
@[simp] theorem resetWith_stephz (c : Config) (i : List PortIn) (o : PortOut) : (State.resetWith c i o).stephz = 0 := rfl
@[simp] theorem resetWith_freq0 (c : Config) (i : List PortIn) (o : PortOut) : (State.resetWith c i o).freq0 = 0 := rfl
@[simp] theorem resetWith_freq1 (c : Config) (i : List PortIn) (o : PortOut) : (State.resetWith c i o).freq1 = 0 := rfl
@[simp] theorem resetWith_tickcnt (c : Config) (i : List PortIn) (o : PortOut) : (State.resetWith c i o).tickcnt = 0 := rfl
@[simp] theorem resetWith_tstart (c : Config) (i : List PortIn) (o : PortOut) : (State.resetWith c i o).tstart = 0 := rfl
@[simp] theorem resetWith_tstop (c : Config) (i : List PortIn) (o : PortOut) : (State.resetWith c i o).tstop = 0 := rfl
@[simp] theorem resetWith_tblidx (c : Config) (i : List PortIn) (o : PortOut) : (State.resetWith c i o).tblidx = 0 := rfl
@[simp] theorem resetWith_pwmcnt (c : Config) (i : List PortIn) (o : PortOut) : (State.resetWith c i o).pwmcnt = 0 := rfl
@[simp] theorem resetWith_dutyact0 (c : Config) (i : List PortIn) (o : PortOut) : (State.resetWith c i o).dutyact0 = 0 := rfl
@[simp] theorem resetWith_dutyact1 (c : Config) (i : List PortIn) (o : PortOut) : (State.resetWith c i o).dutyact1 = 0 := rfl
@[simp] theorem resetWith_pend (c : Config) (i : List PortIn) (o : PortOut) : (State.resetWith c i o).pend = false := rfl
@[simp] theorem resetWith_cfg (c : Config) (i : List PortIn) (o : PortOut) : (State.resetWith c i o).cfg = c := rfl
@[simp] theorem resetWith_input (c : Config) (i : List PortIn) (o : PortOut) : (State.resetWith c i o).input = i := rfl
@[simp] theorem resetWith_out (c : Config) (i : List PortIn) (o : PortOut) : (State.resetWith c i o).out = o := rfl
@[simp] theorem resetWith_refusedWhy (c : Config) (i : List PortIn) (o : PortOut) : (State.resetWith c i o).refusedWhy = none := rfl

/-- Reset keeps the configuration and the inputs and outputs of the cycle, and nothing else. -/
@[simp] theorem resetRegisters_eq : s.resetRegisters = State.resetWith s.cfg s.input s.out := rfl

end Sys2Proof.Machine
end

