-- ==== Sys2Proof/Laws/Ops.lean ====
section
/-!
SUPPORT. One lemma per flag computation and shared operation, saying all it can do.
-/

namespace Sys2Proof.Machine

variable {s t done : State}

/-- The host may act exactly with the engine idle and no tick pending (spec 20_memory.md R76). -/
@[simp] theorem hostMayAct_iff : s.hostMayAct = true ↔ s.eng = Eng.idle ∧ s.pend = false := by
  simp [State.hostMayAct]

/-- The engine dispatches exactly when it is idle and a tick is pending (41_dds_engine.md R151). -/
@[simp] theorem dispatches_iff : s.dispatches = true ↔ s.eng = Eng.idle ∧ s.pend = true := by
  simp [State.dispatches]

/-- The counter overflows exactly on a prescaler wrap at 255 (40_timebase.md R121). -/
theorem overflows_iff : s.overflows = true ↔ s.pre.toNat + 1 = s.tbdiv.toNat ∧ s.tbcnt = 255 := by
  simp [State.overflows, State.prescalerWraps]

/-- `h_ready` of 30_encoding.md R106. -/
theorem hReady_iff {p : PortIn} : hReady s p = true ↔ p.rst = false ∧ s.eng = Eng.idle ∧ s.pend = false := by
  simp [hReady, State.hostMayAct]

/-- A transaction is performed exactly when it is presented and the core is ready (R76). -/
theorem performs_iff {p : PortIn} :
    performs s p = true ↔ p.hValid = true ∧ p.rst = false ∧ s.eng = Eng.idle ∧ s.pend = false := by
  simp [performs, hReady, State.hostMayAct]

/-- A chain has a next state only through one of its first part. -/
theorem andThen_eq_next {r : Result} {f : State → Result} (h : andThen r f = .next t) :
    ∃ u, r = .next u ∧ f u = .next t := by
  cases r with
  | next u => exact ⟨u, rfl, h⟩
  | fault e => cases h
  | refused e => cases h

@[simp] theorem andThen_next (u : State) (f : State → Result) : andThen (.next u) f = f u := rfl

/-- A refusable operation either is refused, with the flag and the ghost reason as its whole effect, or is done (60_exceptions.md R301). -/
theorem unlessRefused_cases {why : Option RefusedReason} (h : unlessRefused why s done = .next t) :
    (∃ r, why = some r ∧ t = s.raiseRefused r) ∨ (why = none ∧ t = done) := by
  cases why with
  | none => exact .inr ⟨rfl, by simpa [unlessRefused] using h.symm⟩
  | some r => exact .inl ⟨r, rfl, by simpa [unlessRefused] using h.symm⟩

/-- A refusable operation always completes. -/
theorem unlessRefused_completes (why : Option RefusedReason) (s done : State) :
    ∃ t, unlessRefused why s done = .next t := by
  cases why <;> exact ⟨_, rfl⟩

/-- `LOCKED` exactly while armed (R301). -/
theorem lockedRefusal_eq (s : State) : s.lockedRefusal = if s.ie then some .locked else none := rfl

/-- `NOT_CONFIGURED` exactly without a successful `CONFIGURE` (R301). -/
theorem unconfiguredRefusal_eq (s : State) :
    s.unconfiguredRefusal = if s.cfgValid then none else some .notConfigured := rfl

/-- The chosen divisor is the first one or one of the others (40_timebase.md R124). -/
theorem foldl_nearerDivisor_mem (clk tgt : Nat) (l : List Nat) (b : Nat) :
    l.foldl (nearerDivisor clk tgt) b = b ∨ l.foldl (nearerDivisor clk tgt) b ∈ l := by
  induction l generalizing b with
  | nil => exact .inl rfl
  | cons d ds ih =>
    rcases ih (nearerDivisor clk tgt b d) with h | h
    · simp only [List.foldl_cons, h]
      unfold nearerDivisor
      split
      · exact .inr (by simp)
      · exact .inl rfl
    · exact .inr (List.mem_cons_of_mem _ h)

/-- `select_div` returns only members of `DIVISORS` (R124, R125). -/
theorem selectDiv_mem (c : Config) (clk tgt : Nat) : selectDiv c clk tgt ∈ c.divisors := by
  rcases foldl_nearerDivisor_mem clk tgt c.moreDivisors c.firstDivisor with h | h
  · simp [selectDiv, Config.divisors, h]
  · exact List.mem_cons_of_mem _ h

/-- In a strictly rising list the first member is below all others. -/
theorem lt_of_strictlyRising {a : Nat} {l : List Nat} (h : strictlyRising (a :: l) = true) : ∀ d ∈ l, a < d := by
  induction l generalizing a with
  | nil => simp
  | cons b l ih =>
    simp only [strictlyRising, Bool.and_eq_true, decide_eq_true_eq] at h
    intro d hd
    rcases List.mem_cons.mp hd with rfl | hd
    · exact h.1
    · exact lt_trans h.1 (ih h.2 d hd)

/-- A member of a legal `DIVISORS` lies in 1..1024 (00_scope.md R8). -/
theorem divisor_range {c : Config} (h : c.legal = true) {d : Nat} (hd : d ∈ c.divisors) : 0 < d ∧ d ≤ 1024 := by
  simp only [Config.legal, Bool.and_eq_true, decide_eq_true_eq, List.all_eq_true] at h
  refine ⟨?_, h.2 d hd⟩
  rcases List.mem_cons.mp hd with rfl | hd
  · exact h.1.1.2
  · exact lt_trans h.1.1.2 (lt_of_strictlyRising h.1.2 d hd)

/-- The reset divisor of a legal configuration is its first member, whole. -/
theorem resetWith_tbdiv_toNat {c : Config} (h : c.legal = true) (i : List PortIn) (o : PortOut) :
    (State.resetWith c i o).tbdiv.toNat = c.firstDivisor := by
  have := (divisor_range h (d := c.firstDivisor) (by simp [Config.divisors])).2
  simp only [resetWith_tbdiv, BitVec.toNat_ofNat]
  omega

end Sys2Proof.Machine
end

