-- ==== Sys2Proof/Laws/PerInstr.lean ====
section
/-!
SUPPORT. Statements made per operation. `FormatOfEncoding`: the encoding of a well-formed operation has the form that its format
prescribes (spec 30_encoding.md R94, R98, R105).
-/

namespace Sys2Proof.Laws

/-- The form that R94, R98 and R105 give the selectors of a format. -/
def FormatOfEncoding.formOf : Format → OpWord → Prop
  | .rd, w => ∃ a, w = .host (.ofFields false a 0)
  | .wr, w => ∃ a d, a ≠ 0x01 ∧ w = .host (.ofFields true a d)
  | .cmd, w => ∃ d, w = .host (.ofFields true 0x01 d)
  | .eng, w => ∃ c, c.toNat ≤ 5 ∧ w = .eng c
  | .edge, w => w = .edge

/-- A well-formed operation is encoded in its format. -/
def FormatOfEncoding.Statement (i : Instr) : Prop :=
  i.wellFormed = true → FormatOfEncoding.formOf i.format (encode i)

/-- A writable 32-bit register's address is not that of `CMD`. -/
theorem wordAddr_ne_cmd (b : BitVec 4) (hb : b ≠ 0) (k : BitVec 2) : (b ++ k : BitVec 6) ≠ 0x01 := by
  revert b k; decide

theorem FormatOfEncoding.rdStatus : FormatOfEncoding.Statement (.rdStatus) :=
  fun _ => ⟨_, rfl⟩

theorem FormatOfEncoding.rdCmd : FormatOfEncoding.Statement (.rdCmd) :=
  fun _ => ⟨_, rfl⟩

theorem FormatOfEncoding.rdTbdiv (k : BitVec 1) : FormatOfEncoding.Statement (.rdTbdiv k) :=
  fun _ => ⟨_, rfl⟩

theorem FormatOfEncoding.rdClkrate (k : BitVec 2) : FormatOfEncoding.Statement (.rdClkrate k) :=
  fun _ => ⟨_, rfl⟩

theorem FormatOfEncoding.rdTgtrate (k : BitVec 2) : FormatOfEncoding.Statement (.rdTgtrate k) :=
  fun _ => ⟨_, rfl⟩

theorem FormatOfEncoding.rdStephz (k : BitVec 2) : FormatOfEncoding.Statement (.rdStephz k) :=
  fun _ => ⟨_, rfl⟩

theorem FormatOfEncoding.rdFreq0 (k : BitVec 2) : FormatOfEncoding.Statement (.rdFreq0 k) :=
  fun _ => ⟨_, rfl⟩

theorem FormatOfEncoding.rdFreq1 (k : BitVec 2) : FormatOfEncoding.Statement (.rdFreq1 k) :=
  fun _ => ⟨_, rfl⟩

theorem FormatOfEncoding.rdPhinc0 (k : BitVec 2) : FormatOfEncoding.Statement (.rdPhinc0 k) :=
  fun _ => ⟨_, rfl⟩

theorem FormatOfEncoding.rdPhinc1 (k : BitVec 2) : FormatOfEncoding.Statement (.rdPhinc1 k) :=
  fun _ => ⟨_, rfl⟩

theorem FormatOfEncoding.rdPhacc0 (k : BitVec 2) : FormatOfEncoding.Statement (.rdPhacc0 k) :=
  fun _ => ⟨_, rfl⟩

theorem FormatOfEncoding.rdPhacc1 (k : BitVec 2) : FormatOfEncoding.Statement (.rdPhacc1 k) :=
  fun _ => ⟨_, rfl⟩

theorem FormatOfEncoding.rdTickcnt (k : BitVec 1) : FormatOfEncoding.Statement (.rdTickcnt k) :=
  fun _ => ⟨_, rfl⟩

theorem FormatOfEncoding.rdTstart : FormatOfEncoding.Statement (.rdTstart) :=
  fun _ => ⟨_, rfl⟩

theorem FormatOfEncoding.rdTstop : FormatOfEncoding.Statement (.rdTstop) :=
  fun _ => ⟨_, rfl⟩

theorem FormatOfEncoding.rdDuty0 : FormatOfEncoding.Statement (.rdDuty0) :=
  fun _ => ⟨_, rfl⟩

theorem FormatOfEncoding.rdDuty1 : FormatOfEncoding.Statement (.rdDuty1) :=
  fun _ => ⟨_, rfl⟩

theorem FormatOfEncoding.rdTbcnt : FormatOfEncoding.Statement (.rdTbcnt) :=
  fun _ => ⟨_, rfl⟩

theorem FormatOfEncoding.rdTblidx : FormatOfEncoding.Statement (.rdTblidx) :=
  fun _ => ⟨_, rfl⟩

theorem FormatOfEncoding.rdTbldata : FormatOfEncoding.Statement (.rdTbldata) :=
  fun _ => ⟨_, rfl⟩

theorem FormatOfEncoding.rdRsvd (a : Addr) : FormatOfEncoding.Statement (.rdRsvd a) :=
  fun _ => ⟨_, rfl⟩

theorem FormatOfEncoding.wrClkrate (k : BitVec 2) (d : Byte) : FormatOfEncoding.Statement (.wrClkrate k d) :=
  fun _ => ⟨_, _, wordAddr_ne_cmd _ (by decide) k, rfl⟩

theorem FormatOfEncoding.wrTgtrate (k : BitVec 2) (d : Byte) : FormatOfEncoding.Statement (.wrTgtrate k d) :=
  fun _ => ⟨_, _, wordAddr_ne_cmd _ (by decide) k, rfl⟩

theorem FormatOfEncoding.wrFreq0 (k : BitVec 2) (d : Byte) : FormatOfEncoding.Statement (.wrFreq0 k d) :=
  fun _ => ⟨_, _, wordAddr_ne_cmd _ (by decide) k, rfl⟩

theorem FormatOfEncoding.wrFreq1 (k : BitVec 2) (d : Byte) : FormatOfEncoding.Statement (.wrFreq1 k d) :=
  fun _ => ⟨_, _, wordAddr_ne_cmd _ (by decide) k, rfl⟩

theorem FormatOfEncoding.wrTblidx (d : Byte) : FormatOfEncoding.Statement (.wrTblidx d) :=
  fun _ => ⟨_, _, by decide, rfl⟩

theorem FormatOfEncoding.wrPhinc0 (k : BitVec 2) (d : Byte) : FormatOfEncoding.Statement (.wrPhinc0 k d) :=
  fun _ => ⟨_, _, wordAddr_ne_cmd _ (by decide) k, rfl⟩

theorem FormatOfEncoding.wrPhinc1 (k : BitVec 2) (d : Byte) : FormatOfEncoding.Statement (.wrPhinc1 k d) :=
  fun _ => ⟨_, _, wordAddr_ne_cmd _ (by decide) k, rfl⟩

theorem FormatOfEncoding.wrRo (a : Addr) (d : Byte) : FormatOfEncoding.Statement (.wrRo a d) :=
  fun h => ⟨a, d, by rintro rfl; simp [Instr.wellFormed, readOnlyAddr] at h, rfl⟩

theorem FormatOfEncoding.wrRsvd (a : Addr) (d : Byte) : FormatOfEncoding.Statement (.wrRsvd a d) :=
  fun h => ⟨a, d, by rintro rfl; simp [Instr.wellFormed, reservedAddr] at h, rfl⟩

theorem FormatOfEncoding.cmdNop : FormatOfEncoding.Statement (.cmdNop) :=
  fun _ => ⟨_, rfl⟩

theorem FormatOfEncoding.cmdConfigure : FormatOfEncoding.Statement (.cmdConfigure) :=
  fun _ => ⟨_, rfl⟩

theorem FormatOfEncoding.cmdEnable : FormatOfEncoding.Statement (.cmdEnable) :=
  fun _ => ⟨_, rfl⟩

theorem FormatOfEncoding.cmdDisable : FormatOfEncoding.Statement (.cmdDisable) :=
  fun _ => ⟨_, rfl⟩

theorem FormatOfEncoding.cmdSetfreq0 : FormatOfEncoding.Statement (.cmdSetfreq0) :=
  fun _ => ⟨_, rfl⟩

theorem FormatOfEncoding.cmdSetfreq1 : FormatOfEncoding.Statement (.cmdSetfreq1) :=
  fun _ => ⟨_, rfl⟩

theorem FormatOfEncoding.cmdClrtick : FormatOfEncoding.Statement (.cmdClrtick) :=
  fun _ => ⟨_, rfl⟩

theorem FormatOfEncoding.cmdRsvd (code : Byte) : FormatOfEncoding.Statement (.cmdRsvd code) :=
  fun _ => ⟨_, rfl⟩

theorem FormatOfEncoding.eDispatch : FormatOfEncoding.Statement (.eDispatch) :=
  fun _ => ⟨_, by decide, rfl⟩

theorem FormatOfEncoding.eT0 : FormatOfEncoding.Statement (.eT0) :=
  fun _ => ⟨_, by decide, rfl⟩

theorem FormatOfEncoding.eCh0 : FormatOfEncoding.Statement (.eCh0) :=
  fun _ => ⟨_, by decide, rfl⟩

theorem FormatOfEncoding.eCh1 : FormatOfEncoding.Statement (.eCh1) :=
  fun _ => ⟨_, by decide, rfl⟩

theorem FormatOfEncoding.eT1 : FormatOfEncoding.Statement (.eT1) :=
  fun _ => ⟨_, by decide, rfl⟩

theorem FormatOfEncoding.eCnt : FormatOfEncoding.Statement (.eCnt) :=
  fun _ => ⟨_, by decide, rfl⟩

theorem FormatOfEncoding.tbCount : FormatOfEncoding.Statement (.tbCount) :=
  fun _ => rfl

theorem FormatOfEncoding.pwmStep : FormatOfEncoding.Statement (.pwmStep) :=
  fun _ => rfl

end Sys2Proof.Laws
end

