-- ==== Sys2Proof/Laws/Step.lean ====
section
/-!
SUPPORT. What a step can do, said once: the engine operation by its code, the host operation, the edge, and the cases of a step.
-/

namespace Sys2Proof.Machine

variable {s t : State}

/-- Every operation completes: refusing is an effect on `REFUSED`, not a stop (spec 30_encoding.md R97, 41_dds_engine.md R164). -/
theorem exec_completes (i : Instr) (s : State) : ∃ t, exec i s = .next t := by
  cases i <;> first | exact ⟨_, rfl⟩ | exact unlessRefused_completes _ _ _

/-- A read delivers a byte and does nothing else (20_memory.md R65). -/
theorem exec_decodeRd_delivers (a : Addr) (s : State) : ∃ b, exec (decodeRd a) s = .next (s.deliver b) := by
  unfold decodeRd
  split <;> exact ⟨_, rfl⟩

/-- The host operation of a phase: either none is performed, and the state stays, or it is the decoded one. -/
theorem hostOp_cases {write performed : Bool} {p : PortIn} (h : hostOp write p performed s = .next t) :
    ((performed = false ∨ p.hWrite ≠ write) ∧ t = s)
      ∨ (performed = true ∧ p.hWrite = write ∧ exec (decodeHost p.word) s = .next t) := by
  unfold hostOp at h
  split at h
  · rename_i hc
    simp only [Bool.and_eq_true, beq_iff_eq] at hc
    exact .inr ⟨hc.1, hc.2, h⟩
  · rename_i hc
    refine .inl ⟨?_, by simpa using h.symm⟩
    simp only [Bool.and_eq_true, beq_iff_eq, not_and] at hc
    cases performed <;> simp_all

@[simp] theorem word_isWrite (p : PortIn) : p.word.isWrite = p.hWrite := isWrite_ofFields _ _ _

@[simp] theorem word_addr (p : PortIn) : p.word.addr = p.hAddr := addr_ofFields _ _ _

@[simp] theorem word_data (p : PortIn) : p.word.data = p.hWdata := data_ofFields _ _ _

/-- The word of the port is decoded by its write bit, address and data (30_encoding.md R93, R94). -/
theorem decodeHost_word (p : PortIn) :
    decodeHost p.word = if p.hWrite then decodeWr p.hAddr p.hWdata else decodeRd p.hAddr := by
  simp [decodeHost]

/-- The read phase of a cycle changes at most the read data. -/
theorem hostOp_read_cases {performed : Bool} {p : PortIn} (h : hostOp false p performed s = .next t) :
    t = s ∨ ∃ b, t = s.deliver b := by
  rcases hostOp_cases h with ⟨-, rfl⟩ | ⟨-, hw, he⟩
  · exact .inl rfl
  · obtain ⟨b, hb⟩ := exec_decodeRd_delivers p.hAddr s
    rw [decodeHost_word, hw, if_neg (by simp), hb] at he
    exact .inr ⟨b, by simpa using he.symm⟩

/-- The engine operation, by the code in `ENG` (30_encoding.md R98). -/
theorem engineOp_cases (h : engineOp s = .next t) :
    (s.eng = Eng.idle ∧ t = s.dispatchTick)
      ∨ (s.eng = Eng.t0 ∧ t = s.recordStart)
      ∨ (s.eng = Eng.ch0 ∧ t = s.advanceChannel0)
      ∨ (s.eng = Eng.ch1 ∧ t = s.advanceChannel1)
      ∨ (s.eng = Eng.t1 ∧ t = s.recordStop)
      ∨ (s.eng = Eng.cnt ∧ t = s.countTick.returnFromTick) := by
  unfold engineOp at h
  rcases engCode_cases s.eng with e | e | e | e | e | e | e | e <;> rw [e] at h ⊢ <;>
    simp [decodeEng] at h <;> simp [h]

/-- Codes 6 and 7 stop the engine (93_implementation_defined.md U18). -/
theorem engineOp_unassigned (h : 5 < s.eng.toNat) : engineOp s = .fault (.engUnassigned s.eng) := by
  unfold engineOp
  rcases engCode_cases s.eng with e | e | e | e | e | e | e | e <;> rw [e] at h ⊢ <;>
    first | (simp at h; done) | rfl

/-- With a code the table of R98 has, the engine completes. -/
theorem engineOp_completes (h : s.eng.toNat ≤ 5) : ∃ t, engineOp s = .next t := by
  unfold engineOp
  rcases engCode_cases s.eng with e | e | e | e | e | e | e | e <;> rw [e] at h ⊢ <;>
    first | (simp at h; done) | exact ⟨_, rfl⟩

/-- The part of the edge that is not the host's: the carrier, the engine on what it leaves, the timebase on that, the latch last. -/
theorem everyEdge_eq_next (h : everyEdge s = .next t) :
    ∃ e, engineOp s.carrierStep = .next e ∧ t = e.timebaseCount.latchTick s.overflows := by
  unfold everyEdge at h
  rw [exec_pwmStep, andThen_next] at h
  obtain ⟨e, he, h⟩ := andThen_eq_next h
  rw [exec_tbCount, andThen_next] at h
  exact ⟨e, he, by simpa using h.symm⟩

/-- What a step can do: a reset, or a read phase, the edge of the three free-running parts, and a write phase. -/
theorem step_cases (h : step s = .next t) :
    (s.presented.rst = true ∧ t = s.openCycle.resetRegisters)
      ∨ (s.presented.rst = false ∧ ∃ s1 s2,
          hostOp false s.presented (performs s s.presented) s.openCycle = .next s1
            ∧ everyEdge s1 = .next s2
            ∧ hostOp true s.presented (performs s s.presented) s2 = .next t) := by
  unfold step clockCycle at h
  simp only at h
  split at h
  · rename_i hr
    exact .inl ⟨hr, by simpa using h.symm⟩
  · rename_i hr
    obtain ⟨s1, h1, h⟩ := andThen_eq_next h
    obtain ⟨s2, h2, h⟩ := andThen_eq_next h
    exact .inr ⟨by simpa using hr, s1, s2, h1, h2, h⟩

end Sys2Proof.Machine
end

