-- ==== Sys2Proof/Tests/Slice0.lean ====
section
/-!
SUPPORT. Tests: the checks of WellFormed, a word written out from the spec's encoding for every operation, one-step tests with
values from the vectors of spec 95_test_vectors.md, and for every statement with hypotheses a state and operands that meet them.
-/

namespace Sys2Proof.Tests

open Sys2Proof.Machine

/-! One theorem after the other: elaborated at once they ask for a thread each. -/
set_option Elab.async false

/-- The outcome is a next state with the property given. -/
def gives (r : Result) (p : State → Bool) : Bool :=
  match r with
  | .next t => p t
  | .fault _ => false
  | .refused _ => false

/-- A cycle that presents a write of `d` at `a`. -/
def writing (a : Addr) (d : Byte) : PortIn := ⟨false, true, true, a, d⟩

/-- A cycle that presents a read of `a`. -/
def reading (a : Addr) : PortIn := ⟨false, true, false, a, 0⟩

/-- A cycle with `rst = 1`. -/
def resetting : PortIn := ⟨true, false, false, 0, 0⟩

/-- `s` with one cycle's inputs. -/
def given (s : State) (p : PortIn) : State := { s with input := [p] }

/-- The configured core of L3 program 1: 16 MHz, 62500 Hz, tones of 700 Hz and 1900 Hz staged, disarmed. -/
def configured : State :=
  { State.reset with
    cfgValid := true, clkrate := 16000000, tgtrate := 62500, stephz := 68719, freq0 := 700, freq1 := 1900
    phinc0 := 0x02DDFF84, phinc1 := 0x07C847D4 }

/-- The same core armed. -/
def armed : State := { configured with ie := true }

/-- The cycle before a tick is raised. -/
def aboutToTick : State := { armed with tbcnt := 255, pwmcnt := 7 }

/-- The cycle in which the tick is pending. -/
def ticking : State := { armed with pend := true }

/-- A handler run at `CH0`, in the cycle that R169 gives it. -/
def running : State := { armed with eng := Eng.ch0, tbcnt := 2, phacc0 := 0xFF2DD4E4 }

/-! ## WellFormed refuses an ill-formed term, one for each check -/

theorem test_wellFormed_rdRsvd : (Instr.rdRsvd 0x00).wellFormed = false := by decide
theorem test_wellFormed_wrRo : (Instr.wrRo 0x04 0).wellFormed = false := by decide
theorem test_wellFormed_wrRsvd : (Instr.wrRsvd 0x30 0).wellFormed = false := by decide
theorem test_wellFormed_cmdRsvd : (Instr.cmdRsvd 0x06).wellFormed = false := by decide
theorem test_wellFormed_boundaries :
    (Instr.rdRsvd 0x2F).wellFormed = true ∧ (Instr.wrRo 0x31 0xFF).wellFormed = true
      ∧ (Instr.wrRsvd 0x32 0).wellFormed = true ∧ (Instr.cmdRsvd 0x07).wellFormed = true := by decide

/-! ## Words written out from the encodings: write bit, address, data (30_encoding.md R93, 44_host_ops.md, 40_timebase.md) -/

theorem test_decode_reads :
    decodeHost 0b0_000000_00000000 = .rdStatus ∧ decodeHost 0b0_000001_00000000 = .rdCmd
      ∧ decodeHost 0b0_000011_00000000 = .rdTbdiv 1 ∧ decodeHost 0b0_000110_00000000 = .rdClkrate 2
      ∧ decodeHost 0b0_001011_00000000 = .rdTgtrate 3 ∧ decodeHost 0b0_001101_00000000 = .rdStephz 1
      ∧ decodeHost 0b0_010010_00000000 = .rdFreq0 2 ∧ decodeHost 0b0_010111_00000000 = .rdFreq1 3
      ∧ decodeHost 0b0_011001_00000000 = .rdPhinc0 1 ∧ decodeHost 0b0_011110_00000000 = .rdPhinc1 2
      ∧ decodeHost 0b0_100011_00000000 = .rdPhacc0 3 ∧ decodeHost 0b0_100101_00000000 = .rdPhacc1 1 := by decide

theorem test_decode_byte_reads :
    decodeHost 0b0_101001_00000000 = .rdTickcnt 1 ∧ decodeHost 0b0_101010_00000000 = .rdTstart
      ∧ decodeHost 0b0_101011_00000000 = .rdTstop ∧ decodeHost 0b0_101100_00000000 = .rdDuty0
      ∧ decodeHost 0b0_101101_00000000 = .rdDuty1 ∧ decodeHost 0b0_101110_00000000 = .rdTbcnt
      ∧ decodeHost 0b0_110000_00000000 = .rdTblidx ∧ decodeHost 0b0_110001_00000000 = .rdTbldata
      ∧ decodeHost 0b0_101111_00000000 = .rdRsvd 0x2F ∧ decodeHost 0b0_110010_11111111 = .rdRsvd 0x32 := by decide

theorem test_decode_writes :
    decodeHost 0b1_000101_10100101 = .wrClkrate 1 0xA5 ∧ decodeHost 0b1_001010_00010010 = .wrTgtrate 2 0x12
      ∧ decodeHost 0b1_010000_10111100 = .wrFreq0 0 0xBC ∧ decodeHost 0b1_010101_00000111 = .wrFreq1 1 0x07
      ∧ decodeHost 0b1_110000_01000001 = .wrTblidx 0x41 ∧ decodeHost 0b1_011011_01000000 = .wrPhinc0 3 0x40
      ∧ decodeHost 0b1_011100_11000000 = .wrPhinc1 0 0xC0 ∧ decodeHost 0b1_001100_00000001 = .wrRo 0x0C 0x01
      ∧ decodeHost 0b1_110001_00000000 = .wrRo 0x31 0x00 ∧ decodeHost 0b1_101111_00000001 = .wrRsvd 0x2F 0x01 := by
  decide

theorem test_decode_commands :
    decodeHost 0b1_000001_00000000 = .cmdNop ∧ decodeHost 0b1_000001_00000001 = .cmdConfigure
      ∧ decodeHost 0b1_000001_00000010 = .cmdEnable ∧ decodeHost 0b1_000001_00000011 = .cmdDisable
      ∧ decodeHost 0b1_000001_00000100 = .cmdSetfreq0 ∧ decodeHost 0b1_000001_00000101 = .cmdSetfreq1
      ∧ decodeHost 0b1_000001_00000110 = .cmdClrtick ∧ decodeHost 0b1_000001_00000111 = .cmdRsvd 0x07
      ∧ decodeHost 0b1_000001_11111111 = .cmdRsvd 0xFF := by decide

theorem test_decode_engine :
    decodeTableWord 8 0b000 = some .eDispatch ∧ decodeTableWord 8 0b001 = some .eT0
      ∧ decodeTableWord 8 0b010 = some .eCh0 ∧ decodeTableWord 8 0b011 = some .eCh1
      ∧ decodeTableWord 8 0b100 = some .eT1 ∧ decodeTableWord 8 0b101 = some .eCnt := by decide

/-- Unassigned engine codes (R98), the empty selector (R105), a sixteenth bit (R93), and a third byte select nothing. -/
theorem test_decode_rejects :
    decodeTableWord 8 6 = none ∧ decodeTableWord 8 7 = none ∧ decodeTableWord 8 8 = none ∧ decodeTableWord 0 0 = none
      ∧ decodeTableWord 16 0x8000 = none ∧ decodeTableWord 24 0 = none
      ∧ decodeBytes [] = .error .edgeSelectsNothing ∧ decodeBytes [0, 0x80] = .error .hostWordTooWide := by decide

theorem test_edge_operations_encode_to_nothing : encode .tbCount = .edge ∧ encode .pwmStep = .edge := by decide

/-! ## A presented operation is performed by the very next step -/

theorem test_fetch_write : gives (step (State.reset.withFetchWord 16 0x7041)) (fun t => t.tblidx == 0x41) = true := by decide
theorem test_fetch_engine :
    gives (step (State.reset.withFetchWord 8 5)) (fun t => t.tickcnt == 1 && t.eng == Eng.idle) = true := by decide

/-! ## One step, with the values of 95_test_vectors.md or of the rule named -/

/-- R29: 1 + 2. -/
theorem test_rdStatus : gives (step (given armed (reading 0x00))) (fun t => t.out.hRdata == 0x03) = true := by decide

/-- Byte 1 of `STEPHZ` = 0x00010C6F (L1.2). -/
theorem test_rdStephz : gives (step (given configured (reading 0x0D))) (fun t => t.out.hRdata == 0x0C) = true := by decide

/-- Byte 3 of `PHINC[1]` = 0x07C847D4 (L1.2). -/
theorem test_rdPhinc1 : gives (step (given configured (reading 0x1F))) (fun t => t.out.hRdata == 0x07) = true := by decide

/-- `T[0]` = 127 (R193). -/
theorem test_rdTbldata : gives (step (given configured (reading 0x31))) (fun t => t.out.hRdata == 127) = true := by decide

/-- A read of `TBCNT` gives the count before the edge (R248). -/
theorem test_rdTbcnt :
    gives (step (given { armed with tbcnt := 9 } (reading 0x2E))) (fun t => t.out.hRdata == 9 && t.tbcnt == 10) = true := by
  decide

/-- A reserved address reads 0x00 and is not refused (R251). -/
theorem test_rdRsvd :
    gives (step (given configured (reading 0x3F))) (fun t => t.out.hRdata == 0 && !t.refused) = true := by decide

/-- Byte 1 of 0x00F42400 becomes 0xA5 (R256). -/
theorem test_wrClkrate :
    gives (exec (.wrClkrate 1 0xA5) configured) (fun t => t.clkrate == 0x00F4A500) = true := by decide

/-- An armed increment write is refused (R262), a disarmed one is not. -/
theorem test_wrPhinc0 :
    gives (step (given armed (writing 0x1B 0x40))) (fun t => t.phinc0 == 0x02DDFF84 && t.refused) = true
      ∧ gives (step (given configured (writing 0x1B 0x40))) (fun t => t.phinc0 == 0x40DDFF84 && !t.refused) = true := by
  decide

/-- R264: `REFUSED` and nothing else. -/
theorem test_wrRo :
    gives (step (given configured (writing 0x20 0xFF))) (fun t => t.refused && t.phacc0 == 0) = true := by decide

/-- L2.1: 16 MHz and 8000 Hz give the divisor 8; `STEPHZ` = floor(2^32 / 8000) = 536870. -/
theorem test_configure :
    gives (step (given { configured with tgtrate := 8000, pre := 0, tbcnt := 77 } (writing 0x01 0x01)))
      (fun t => t.tbdiv == 8 && t.stephz == 536870 && t.tbcnt == 0 && t.cfgValid && !t.cfgErr) = true := by decide

/-- R124: at a tie the smaller divisor wins (L2.1, 4096 and 9 give 1). -/
theorem test_select_div_tie : selectDiv Config.standard 4096 9 = 1 ∧ selectDiv Config.standard 4096 8 = 8 := by decide

/-- A zero rate sets `CFG_ERR` (R125). -/
theorem test_configure_zero :
    gives (step (given State.reset (writing 0x01 0x01))) (fun t => t.cfgErr && !t.cfgValid && !t.refused) = true := by
  decide

/-- L1.2: 700 Hz gives 48,103,300. -/
theorem test_setfreq0 :
    gives (step (given { configured with phinc0 := 0 } (writing 0x01 0x04))) (fun t => t.phinc0 == 48103300) = true := by
  decide

/-- L1.2: 1900 Hz gives 130,566,100. -/
theorem test_setfreq1 :
    gives (step (given { configured with phinc1 := 0 } (writing 0x01 0x05))) (fun t => t.phinc1 == 130566100) = true := by
  decide

/-- R126: refused before `CONFIGURE`, with `NOT_CONFIGURED`. -/
theorem test_enable :
    gives (step (given State.reset (writing 0x01 0x02)))
        (fun t => t.refused && !t.ie && t.refusedWhy == some .notConfigured) = true
      ∧ gives (step (given configured (writing 0x01 0x02))) (fun t => t.ie) = true := by decide

/-- R127: a `DISABLE` on the edge of the overflow discards it; any other edge keeps it. -/
theorem test_disable :
    gives (step (given aboutToTick (writing 0x01 0x03))) (fun t => !t.ie && !t.pend) = true
      ∧ gives (step (given aboutToTick PortIn.idle)) (fun t => t.ie && t.pend && t.tbcnt == 0) = true := by decide

/-- A transaction presented while a tick is pending is not performed (R76); the dispatch clears the latch (R122). -/
theorem test_dispatch :
    gives (step (given ticking (writing 0x01 0x03)))
      (fun t => t.ie && t.eng == Eng.t0 && !t.pend && !t.out.hReady) = true := by decide

/-- L1.4: the instance of P4 on channel 0. -/
theorem test_eCh0 :
    gives (exec .eCh0 { State.reset with eng := 2, phacc0 := 0xFF2DD4E4, phacc1 := 5, phinc0 := 0x02DDFF84, phinc1 := 7 })
      (fun t => t.phacc0 == 0x020BD468 && t.duty0 == 133 && t.phacc1 == 5 && t.duty1 == 0 && t.eng == 3) = true := by decide

/-- L1.4: the same on channel 1. -/
theorem test_eCh1 :
    gives (exec .eCh1 { State.reset with eng := 3, phacc0 := 0x020BD468, phacc1 := 5, duty0 := 133, phinc1 := 7 })
      (fun t => t.phacc1 == 12 && t.duty1 == 127 && t.duty0 == 133 && t.eng == 4) = true := by decide

/-- `TICKCNT` wraps modulo 2^16 (R156). -/
theorem test_eCnt : gives (exec .eCnt { armed with eng := 5, tickcnt := 0xFFFF }) (fun t => t.tickcnt == 0) = true := by decide

/-- The timestamp is the count before the edge's own count (R152). -/
theorem test_eT0 :
    gives (step (given { armed with eng := 1, tbcnt := 1 } PortIn.idle)) (fun t => t.tstart == 1 && t.tbcnt == 2) = true := by
  decide

/-- R121: the prescaler wraps at `TBDIV - 1` only. -/
theorem test_tbCount :
    gives (exec .tbCount { armed with tbdiv := 8, pre := 7, tbcnt := 255 }) (fun t => t.pre == 0 && t.tbcnt == 0) = true
      ∧ gives (exec .tbCount { armed with tbdiv := 8, pre := 6, tbcnt := 5 }) (fun t => t.pre == 7 && t.tbcnt == 5) = true := by
  decide

/-- R211: the active duties are copied on the carrier's wrap, from the duties before the edge. -/
theorem test_pwmStep :
    gives (step (given { running with pwmcnt := 255, duty0 := 9 } PortIn.idle))
      (fun t => t.dutyact0 == 9 && t.duty0 == 133 && t.pwmcnt == 0) = true := by decide

/-- R213: high while the count is below the active duty, never at duty 0. -/
theorem test_pwmOut :
    gives (step { armed with pwmcnt := 4, dutyact0 := 5, dutyact1 := 4 }) (fun t => t.out.pwmOut == 0b01#2) = true := by decide

/-- R350: reset wins over a presented command. -/
theorem test_reset_edge :
    gives (step (given running ⟨true, true, true, 0x01, 0x02⟩)) (fun t => t == { State.reset with out := t.out }) = true := by
  decide +kernel

/-! ## The hypotheses of the statements are met -/

theorem witness_DecodeInvertsEncode :
    (Instr.wrRo 0x2E 0xA5).wellFormed = true ∧ (Instr.wrRo 0x2E 0xA5).format ≠ .edge
      ∧ (Instr.eCnt).wellFormed = true ∧ (Instr.eCnt).format ≠ .edge := by decide

theorem witness_EngineCodesSelectTheSteps : State.reset.pend = false ∧ 5 < (6 : EngCode).toNat := by decide

theorem witness_ReadsOfByteRegisters :
    ((0x2F : Addr) = 0x2F) ∧ 0x32 ≤ (0x32 : Addr).toNat ∧ 0x32 ≤ (0x3F : Addr).toNat := by decide

theorem witness_WritesOfRatesAndFrequencies : (0x07 : Addr) ≠ 0b0001#4 ++ (0 : BitVec 2) := by decide

theorem witness_WritesOfIncrements : armed.ie = true ∧ configured.ie = false ∧ (0x18 : Addr) ≠ 0b0110#4 ++ (3 : BitVec 2) := by
  decide

/-- Both clauses at the ends of their ranges; no address is in both. -/
theorem witness_RefusedWrites :
    (∀ a ∈ ([0x00, 0x02, 0x03, 0x0C, 0x0F, 0x20, 0x2E, 0x31] : List Addr),
        (a = 0x00 ∨ a = 0x02 ∨ a = 0x03 ∨ (0x0C ≤ a.toNat ∧ a.toNat ≤ 0x0F) ∨ (0x20 ≤ a.toNat ∧ a.toNat ≤ 0x2E)
          ∨ a = 0x31) ∧ ¬ (a = 0x2F ∨ 0x32 ≤ a.toNat))
      ∧ ∀ a ∈ ([0x2F, 0x32, 0x3F] : List Addr),
        (a = 0x2F ∨ 0x32 ≤ a.toNat)
          ∧ ¬ (a = 0x00 ∨ a = 0x02 ∨ a = 0x03 ∨ (0x0C ≤ a.toNat ∧ a.toNat ≤ 0x0F) ∨ (0x20 ≤ a.toNat ∧ a.toNat ≤ 0x2E)
            ∨ a = 0x31) := by decide

theorem witness_CommandCodes : 0x07 ≤ (0x07 : Byte).toNat ∧ 0x07 ≤ (0xFF : Byte).toNat := by decide

theorem witness_ConfigureEffect :
    armed.ie = true
      ∧ (State.reset.ie = false ∧ (State.reset.clkrate = 0 ∨ State.reset.tgtrate = 0))
      ∧ (configured.ie = false ∧ configured.clkrate ≠ 0 ∧ configured.tgtrate ≠ 0) := by decide

theorem witness_EnableAndDisableEffect : State.reset.cfgValid = false ∧ configured.cfgValid = true := by decide

theorem witness_SetFrequencyEffect :
    armed.ie = true ∧ (State.reset.ie = false ∧ State.reset.cfgValid = false)
      ∧ (configured.ie = false ∧ configured.cfgValid = true) := by decide

theorem witness_EngineOperationsEffect : ticking.eng = Eng.idle ∧ ticking.pend = true := by decide

/-- The four clauses, the first two at the ends of the divisor's range. -/
theorem witness_EveryEdgeOperationsEffect :
    (armed.pre.toNat + 1 = armed.tbdiv.toNat)
      ∧ (let s := { armed with tbdiv := 1024, pre := 1023 }; s.pre.toNat + 1 = s.tbdiv.toNat)
      ∧ (let s := { armed with tbdiv := 1024, pre := 1022 }; s.pre.toNat + 1 < s.tbdiv.toNat ∧ s.tbdiv.toNat ≤ 1024)
      ∧ ({ armed with pwmcnt := 255 } : State).pwmcnt = 255 ∧ ({ armed with pwmcnt := 254 } : State).pwmcnt ≠ 255 := by decide

/-- A performed read, a performed write, and the three ways of having none. -/
theorem witness_StepRunsTheSelectedOperations :
    (let s := given armed (reading 0x28);
      s.presented.rst = false ∧ decodeEng s.eng = .ok .eDispatch ∧ s.presented.hValid = true ∧ s.presented.hWrite = false
        ∧ s.eng = Eng.idle ∧ s.pend = false ∧ decodeHost s.presented.word = .rdTickcnt 0)
      ∧ (let s := given armed (writing 0x01 0x03);
        s.presented.rst = false ∧ decodeEng s.eng = .ok .eDispatch ∧ s.presented.hValid = true ∧ s.presented.hWrite = true
          ∧ s.eng = Eng.idle ∧ s.pend = false ∧ decodeHost s.presented.word = .cmdDisable)
      ∧ (let s := given running (writing 0x01 0x03);
        s.presented.rst = false ∧ decodeEng s.eng = .ok .eCh0 ∧ s.eng ≠ Eng.idle)
      ∧ ticking.presented.rst = false ∧ decodeEng ticking.eng = .ok .eDispatch ∧ ticking.pend = true
      ∧ armed.presented.hValid = false := by decide

theorem witness_StepIsTheTransitionFunction :
    running.eng.toNat ≤ 5 ∧ (given { running with eng := 7 } resetting).presented.rst = true := by decide

theorem witness_StepStopsOnlyAtUnassignedCodes :
    (let s := { armed with eng := 6 }; s.presented.rst = false ∧ 5 < s.eng.toNat)
      ∧ (let s := { armed with eng := 7 }; s.presented.rst = false ∧ 5 < s.eng.toNat) := by decide

theorem witness_ResetEdge : (given running resetting).presented.rst = true := by decide

theorem witness_OutputsOfACycle : ∃ t, step (given armed (reading 0x28)) = .next t := ⟨_, rfl⟩

/-- The wrap of the carrier, and a reset. -/
theorem witness_CarrierOnEveryEdge :
    (let s := { running with pwmcnt := 255 }; s.presented.rst = false ∧ ∃ t, step s = .next t)
      ∧ (let s := given running resetting; s.presented.rst = true ∧ ∃ t, step s = .next t) :=
  ⟨⟨rfl, _, rfl⟩, ⟨rfl, _, rfl⟩⟩

/-- The three clauses, at the ends of the divisor's range. -/
theorem witness_TimebaseOnEveryEdge :
    (let s := given configured (writing 0x01 0x01);
      s.presented.rst = false ∧ s.pre.toNat < s.tbdiv.toNat ∧ s.tbdiv.toNat ≤ 1024 ∧ s.reconfigures)
      ∧ (let s := aboutToTick;
        s.presented.rst = false ∧ s.pre.toNat < s.tbdiv.toNat ∧ s.tbdiv.toNat ≤ 1024 ∧ ¬ s.reconfigures
          ∧ s.pre.toNat = s.tbdiv.toNat - 1)
      ∧ (let s := { armed with tbdiv := 1024, pre := 1022 };
        s.presented.rst = false ∧ s.pre.toNat < s.tbdiv.toNat ∧ s.tbdiv.toNat ≤ 1024 ∧ ¬ s.reconfigures
          ∧ s.pre.toNat ≠ s.tbdiv.toNat - 1) := by decide

theorem witness_TimebaseOnEveryEdge_steps :
    (∃ t, step (given configured (writing 0x01 0x01)) = .next t) ∧ (∃ t, step aboutToTick = .next t)
      ∧ ∃ t, step { armed with tbdiv := 1024, pre := 1022 } = .next t := ⟨⟨_, rfl⟩, ⟨_, rfl⟩, ⟨_, rfl⟩⟩

theorem witness_PendingLatchOnEveryEdge :
    (let s := given aboutToTick (writing 0x01 0x03); s.presented.rst = false ∧ s.performsWrite 0x01 0x03)
      ∧ aboutToTick.presented.rst = false ∧ ¬ aboutToTick.performsWrite 0x01 0x03 := by decide

theorem witness_PendingLatchOnEveryEdge_steps :
    (∃ t, step (given aboutToTick (writing 0x01 0x03)) = .next t) ∧ ∃ t, step aboutToTick = .next t :=
  ⟨⟨_, rfl⟩, ⟨_, rfl⟩⟩

theorem witness_HeldTransactionHasNoEffect :
    (writing 0x01 0x03).rst = false ∧ running.eng ≠ Eng.idle ∧ ticking.pend = true := by decide

theorem witness_ReadsHaveNoSideEffect :
    (reading 0x28).rst = false ∧ (reading 0x28).hWrite = false ∧ armed.eng.toNat ≤ 5 ∧ running.eng.toNat ≤ 5 := by decide

/-- The states of the witnesses are sound and on time. -/
theorem witness_sound :
    State.reset.Sound ∧ configured.Sound ∧ armed.Sound ∧ aboutToTick.Sound ∧ ticking.Sound ∧ running.Sound :=
  ⟨by decide +kernel, by decide +kernel, by decide +kernel, by decide +kernel, by decide +kernel, by decide +kernel⟩

theorem witness_onTime :
    State.reset.OnTime ∧ configured.OnTime ∧ armed.OnTime ∧ aboutToTick.OnTime ∧ ticking.OnTime ∧ running.OnTime :=
  ⟨by decide, by decide, by decide, by decide, by decide, by decide⟩

theorem witness_ResetIsSound : Config.standard.legal = true := by decide +kernel

theorem witness_StepKeepsSound : running.Sound ∧ ∃ t, step running = .next t := ⟨by decide +kernel, _, rfl⟩

theorem witness_ReachableStatesAreSound :
    Config.standard.legal = true
      ∧ ∃ t, runSteps 2 (State.resetWith Config.standard [writing 0x04 1, writing 0x01 0x01] ⟨false, 0, 0⟩) = .next t :=
  ⟨by decide +kernel, _, rfl⟩

theorem witness_StepKeepsOnTime : ticking.Sound ∧ ticking.OnTime ∧ ∃ t, step ticking = .next t :=
  ⟨by decide +kernel, by decide +kernel, _, rfl⟩

theorem witness_NoOverrun :
    aboutToTick.Sound ∧ aboutToTick.OnTime ∧ aboutToTick.overflows = true ∧ aboutToTick.ie = true := by decide +kernel

theorem witness_NothingWritesTheTable :
    (∃ t, exec .eCh0 running = .next t) ∧ ∃ t, step (given running resetting) = .next t := ⟨⟨_, rfl⟩, ⟨_, rfl⟩⟩

/-- An operation refused for each reason, one that is not, and a refusal that stays. -/
theorem witness_RefusalsAreTheClosedList :
    refusalOf (.wrPhinc0 0 1) armed = some .locked ∧ refusalOf .cmdEnable State.reset = some .notConfigured
      ∧ refusalOf (.wrRo 0x20 0) armed = some .readOnly ∧ refusalOf (.wrRsvd 0x3F 0) armed = some .reservedAddr
      ∧ refusalOf (.cmdRsvd 0x07) armed = some .reservedCmd ∧ refusalOf .cmdNop armed = none
      ∧ (Instr.rdStatus).format = .rd
      ∧ (let s := { armed with refused := true }; s.presented.rst = false ∧ s.refused = true) := by decide

theorem witness_RefusalsAreTheClosedList_step : ∃ t, step { armed with refused := true } = .next t := ⟨_, rfl⟩

/-- At `CH0` every other clause's hypothesis holds, and at `CNT` the one of `CH0`. -/
theorem witness_EngineOwnsPhaseAndDuty :
    running.presented.rst = false ∧ running.eng ≠ Eng.ch1 ∧ running.eng ≠ Eng.t0 ∧ running.eng ≠ Eng.t1
      ∧ running.eng ≠ Eng.cnt ∧ ¬ running.performsWrite 0x01 0x06
      ∧ ({ running with eng := Eng.cnt } : State).eng ≠ Eng.ch0 := by decide

theorem witness_EngineOwnsPhaseAndDuty_steps :
    (∃ t, step running = .next t) ∧ ∃ t, step { running with eng := Eng.cnt } = .next t := ⟨⟨_, rfl⟩, ⟨_, rfl⟩⟩

theorem witness_HostRegistersHoldDuringARun :
    (let s := given running (writing 0x10 9);
      s.presented.rst = false ∧ (s.eng ≠ Eng.idle ∨ s.pend = true) ∧ ∃ t, step s = .next t)
      ∧ (let s := given ticking (writing 0x10 9);
        s.presented.rst = false ∧ (s.eng ≠ Eng.idle ∨ s.pend = true) ∧ ∃ t, step s = .next t) :=
  ⟨⟨rfl, by decide, _, rfl⟩, ⟨rfl, by decide, _, rfl⟩⟩

theorem witness_IncrementsLockedWhileArmed :
    (let s := given armed (writing 0x18 9); s.presented.rst = false ∧ s.ie = true ∧ ∃ t, step s = .next t) :=
  ⟨rfl, rfl, _, rfl⟩

theorem witness_DisarmedCoreStandsStill :
    (let s := given configured (writing 0x01 0x02);
      s.presented.rst = false ∧ s.ie = false ∧ s.eng = Eng.idle ∧ s.pend = false ∧ ¬ s.performsWrite 0x01 0x06
        ∧ ∃ t, step s = .next t) :=
  ⟨rfl, rfl, rfl, rfl, by decide, _, rfl⟩

theorem witness_ChannelsDoNotInterfere : running.eng.toNat ≤ 5 ∧ armed.eng.toNat ≤ 5 := by decide

theorem witness_HandlerRunIsOneTick :
    (let s := { ticking with input := [writing 0x01 0x03, reading 0x20] };
      s.eng = Eng.idle ∧ s.pend = true ∧ s.noResetFor 6) := by decide

theorem witness_HandlerRunTimeline :
    (let s := { aboutToTick with input := [reading 0x20, writing 0x01 0x03] };
      s.Sound ∧ s.OnTime ∧ s.overflows = true ∧ s.ie = true ∧ s.noResetFor 7 ∧ ¬ s.performsWrite 0x01 0x03) := by
  decide +kernel

theorem witness_HostWaitsAtMostSixCycles : ticking.Sound ∧ ticking.OnTime ∧ ticking.noResetFor 6 := by decide +kernel

theorem witness_PositionAdvances :
    aboutToTick.Sound ∧ aboutToTick.presented.rst = false ∧ ¬ aboutToTick.reconfigures ∧ ∃ t, step aboutToTick = .next t :=
  ⟨by decide +kernel, rfl, by decide, _, rfl⟩

theorem witness_OverflowsAreOnePeriodApart :
    (let s := { configured with input := [writing 0x01 0x02, reading 0x2E] };
      s.Sound ∧ s.position = 0 ∧ s.noConfigureFor 600) := by decide +kernel

/-- The core that presents an `ENABLE` at count `n`, then a read. -/
def enabling (n : Byte) : State :=
  { configured with tbcnt := n, input := [writing 0x01 0x02, reading 0x00] }

/-- The first value of the distance: the last position of the period. -/
theorem witness_FirstTickAfterEnable_last :
    (enabling 255).Sound ∧ (enabling 255).eng = Eng.idle ∧ (enabling 255).pend = false ∧ (enabling 255).ie = false
      ∧ (enabling 255).cfgValid = true ∧ (enabling 255).presented.rst = false
      ∧ (enabling 255).presented.presentsWrite 0x01 0x02
      ∧ (256 = if (enabling 255).position = (enabling 255).tickPeriod - 1 then (enabling 255).tickPeriod
          else (enabling 255).tickPeriod - 1 - (enabling 255).position)
      ∧ ∀ p ∈ (enabling 255).input.tail.take 256, p.rst = false ∧ p.hWrite = false :=
  ⟨by decide +kernel, rfl, rfl, rfl, rfl, rfl, by decide, by decide, by decide +kernel⟩

/-- The second value of the distance: any other position. -/
theorem witness_FirstTickAfterEnable :
    (enabling 250).Sound ∧ (enabling 250).eng = Eng.idle ∧ (enabling 250).pend = false ∧ (enabling 250).ie = false
      ∧ (enabling 250).cfgValid = true ∧ (enabling 250).presented.rst = false
      ∧ (enabling 250).presented.presentsWrite 0x01 0x02
      ∧ (5 = if (enabling 250).position = (enabling 250).tickPeriod - 1 then (enabling 250).tickPeriod
          else (enabling 250).tickPeriod - 1 - (enabling 250).position)
      ∧ ∀ p ∈ (enabling 250).input.tail.take 5, p.rst = false ∧ p.hWrite = false :=
  ⟨by decide +kernel, rfl, rfl, rfl, rfl, rfl, by decide, by decide, by decide⟩

theorem witness_SteadyTone :
    (let s := { ticking with input := [reading 0x20, PortIn.idle] };
      s.Sound ∧ s.OnTime ∧ s.pend = true ∧ s.quietFor (3 * s.tickPeriod)) := by decide +kernel

theorem witness_CarrierPeriodShowsTheDuty :
    (let s := { armed with dutyact0 := 254, dutyact1 := 0, input := [writing 0x01 0x03] };
      s.Sound ∧ s.pwmcnt = 0 ∧ s.noResetFor 256 ∧ 253 < 256) := by decide +kernel

theorem witness_TableWindow : configured.eng = Eng.idle ∧ configured.pend = false ∧ configured.ie = false := by decide

theorem witness_SelectDivIsNearest :
    Config.standard.legal = true ∧ 1 ≤ 4096 ∧ 1 ≤ 9 ∧ 8 ∈ Config.standard.divisors := by decide +kernel

theorem witness_AchievedRateAfterConfigure :
    configured.cfg.legal = true ∧ configured.ie = false ∧ configured.clkrate ≠ 0 ∧ configured.tgtrate ≠ 0
      ∧ ∃ t, exec .cmdConfigure configured = .next t :=
  ⟨by decide +kernel, rfl, by decide, by decide, _, rfl⟩

theorem witness_FrequencyIsRecovered :
    configured.ie = false ∧ configured.cfgValid = true ∧ configured.stephz ≠ 0
      ∧ configured.freq0.toNat * configured.stephz.toNat < 2 ^ 32
      ∧ configured.freq1.toNat * configured.stephz.toNat < 2 ^ 32 := by decide

theorem witness_PhaseSequenceHasItsPeriod :
    (0x80000000 : Word).toNat % Nat.gcd (2 ^ 32) (0x40000000 : Word).toNat
      = (0 : Word).toNat % Nat.gcd (2 ^ 32) (0x40000000 : Word).toNat := by decide

/-- The clauses of R193 about a range, at the ends of it. -/
theorem witness_DefaultTableShape :
    (0 : Byte).toNat ≤ 128 ∧ (128 : Byte).toNat ≤ 128 ∧ 128 ≤ (255 : Byte).toNat
      ∧ (192 ≤ (192 : Byte).toNat ∨ (192 : Byte).toNat < 64) ∧ (192 ≤ (63 : Byte).toNat ∨ (63 : Byte).toNat < 64)
      ∧ (64 ≤ (64 : Byte).toNat ∧ (64 : Byte).toNat < 192) ∧ (64 ≤ (191 : Byte).toNat ∧ (191 : Byte).toNat < 192) := by decide

theorem witness_ConfigurationIsCheckedWhenBuilt :
    (match Config.build (List.replicate 256 255) [1, 1024] with
      | .ok c => c.legal
      | .error _ => false) = true
      ∧ (List.replicate 256 255).length = 256 ∧ (∀ v ∈ List.replicate 256 255, v ≤ 255) ∧ [1, 1024] ≠ []
      ∧ [1, 1024].Pairwise (fun a b => a < b) ∧ ∀ d ∈ [1, 1024], 1 ≤ d ∧ d ≤ 1024 :=
  ⟨by decide +kernel, by decide +kernel, by decide +kernel, by decide, by decide, by decide⟩

end Sys2Proof.Tests
end

section
/-!
PROOFS. The configuration of 00_scope.md R8: what `strictlyRising`, `Config.legal` and `Config.build` say, as one
equivalence each, and that the check made when a configuration is built is sound and complete.
-/

namespace Sys2Proof

/-- `strictlyRising` compares neighbours only; by transitivity it orders every pair. -/
theorem strictlyRising_iff_pairwise (l : List Nat) :
    strictlyRising l = true ↔ l.Pairwise (fun a b => a < b) := by
  induction l with
  | nil => simp [strictlyRising]
  | cons a l ih =>
    constructor
    · intro h
      have tail_rises : strictlyRising l = true := by
        cases l with
        | nil => rfl
        | cons b l => exact (Bool.and_eq_true_iff.mp h).2
      exact List.pairwise_cons.mpr ⟨Machine.lt_of_strictlyRising h, ih.mp tail_rises⟩
    · intro h
      obtain ⟨head_lt, tail_pairwise⟩ := List.pairwise_cons.mp h
      cases l with
      | nil => rfl
      | cons b l => simp [strictlyRising, head_lt b, ih.mpr tail_pairwise]

/-- What R8 and R194 require, with every divisor bounded on both sides. -/
theorem Config.legal_iff (c : Config) :
    c.legal = true ↔ c.wavetable.length = tableSize ∧ c.divisors.Pairwise (fun a b => a < b)
      ∧ ∀ d ∈ c.divisors, 1 ≤ d ∧ d ≤ maxDivisor := by
  constructor
  · intro h
    have range : ∀ d ∈ c.divisors, 1 ≤ d ∧ d ≤ maxDivisor := fun _ hd => Machine.divisor_range h hd
    simp only [Config.legal, Bool.and_eq_true, decide_eq_true_eq] at h
    obtain ⟨⟨⟨length_eq, -⟩, rising⟩, -⟩ := h
    exact ⟨length_eq, (strictlyRising_iff_pairwise _).mp rising, range⟩
  · rintro ⟨length_eq, pairwise, range⟩
    have first_pos : 0 < c.firstDivisor := (range c.firstDivisor List.mem_cons_self).1
    simpa [Config.legal, length_eq, first_pos, (strictlyRising_iff_pairwise _).mpr pairwise]
      using fun d hd => (range d hd).2

/-- Exactly when the constructor accepts, and which configuration it returns (U23). -/
theorem Config.build_eq_ok_iff (samples divisors : List Nat) (c : Config) :
    Config.build samples divisors = .ok c ↔
      (∀ v ∈ samples, v ≤ 255) ∧ c.wavetable = samples.map (BitVec.ofNat 8) ∧ c.divisors = divisors
        ∧ c.legal = true := by
  obtain ⟨table, first, more⟩ := c
  constructor
  · intro h
    unfold Config.build at h
    split at h
    case isTrue => cases h
    split at h
    case isTrue => cases h
    next in_range =>
      cases divisors with
      | nil => cases h
      | cons d ds =>
        dsimp only at h
        split at h
        next legal =>
          cases h
          exact ⟨by simpa using in_range, rfl, rfl, legal⟩
        next => cases h
  · rintro ⟨in_range, rfl, rfl, legal⟩
    have length_eq : samples.length = tableSize := by simpa using ((Config.legal_iff _).mp legal).1
    have none_above : samples.any (fun v => decide (255 < v)) = false := by simpa using in_range
    simp [Config.build, Config.divisors, length_eq, none_above, legal]

/-- A sample in 0..255 survives being held as a byte. -/
theorem map_toNat_map_ofNat {samples : List Nat} (h : ∀ v ∈ samples, v ≤ 255) :
    (samples.map (BitVec.ofNat 8)).map (fun v => v.toNat) = samples := by
  rw [List.map_map, List.map_congr_left (g := id), List.map_id]
  intro v hv
  exact Nat.mod_eq_of_lt (Nat.lt_succ_of_le (h v hv))

/-- Soundness: an accepted configuration is legal and loses nothing of its arguments. -/
theorem Config.build_sound {samples divisors : List Nat} {c : Config}
    (h : Config.build samples divisors = .ok c) :
    c.legal = true ∧ c.wavetable.map (fun v => v.toNat) = samples ∧ c.divisors = divisors := by
  obtain ⟨in_range, table_eq, divisors_eq, legal⟩ := (Config.build_eq_ok_iff samples divisors c).mp h
  exact ⟨legal, by rw [table_eq, map_toNat_map_ofNat in_range], divisors_eq⟩

/-- Completeness: arguments as R8 and R194 require them are accepted. -/
theorem Config.build_complete {samples divisors : List Nat} (length_eq : samples.length = tableSize)
    (in_range : ∀ v ∈ samples, v ≤ 255) (nonempty : divisors ≠ [])
    (pairwise : divisors.Pairwise (fun a b => a < b)) (range : ∀ d ∈ divisors, 1 ≤ d ∧ d ≤ maxDivisor) :
    ∃ c, Config.build samples divisors = .ok c := by
  obtain ⟨d, ds, rfl⟩ := List.exists_cons_of_ne_nil nonempty
  have legal : (⟨samples.map (BitVec.ofNat 8), d, ds⟩ : Config).legal = true :=
    (Config.legal_iff _).mpr ⟨by simpa using length_eq, pairwise, range⟩
  exact ⟨_, (Config.build_eq_ok_iff _ _ _).mpr ⟨in_range, rfl, rfl, legal⟩⟩

/-- Settles O59: the check of U23 is sound and complete for R8 and R194. -/
theorem configurationIsCheckedWhenBuilt : Obligations.ConfigurationIsCheckedWhenBuilt :=
  ⟨fun _ _ _ => Config.build_sound, fun _ _ => Config.build_complete⟩

end Sys2Proof
end

section
/-!
PROOFS. What a step without reset can do, said once for the invariants and the ownership statements: the effect of a performed
write or command (44_host_ops.md R256 to R272), and the step as the free-running edge followed by at most one such effect.
-/

namespace Sys2Proof.Machine

variable {s t : State} {i : Instr}

/-- What an operation of format WR or CMD can do to the state it is performed in, with the condition under which it can. -/
inductive WriteEffect (i : Instr) (s : State) : State → Prop where
  /-- `NOP`, R268. -/
  | nothing : WriteEffect i s s
  /-- A refusal, 60_exceptions.md R301. -/
  | refused (why : RefusedReason) : WriteEffect i s (s.raiseRefused why)
  /-- A register that only holds what the host wrote, R256 to R260. -/
  | staged (clk tgt f0 f1 : Word) (index : Byte) :
      WriteEffect i s { s with clkrate := clk, tgtrate := tgt, freq0 := f0, freq1 := f1, tblidx := index }
  /-- An increment, by a byte or by `SETFREQ`: only disarmed, R262, R263, R270. -/
  | retuned (disarmed : s.ie = false) (inc0 inc1 : Word) : WriteEffect i s { s with phinc0 := inc0, phinc1 := inc1 }
  /-- `CONFIGURE` with a zero rate: only disarmed, 40_timebase.md R125. -/
  | misconfigured (disarmed : s.ie = false) : WriteEffect i s { s with cfgErr := true, cfgValid := false }
  /-- `CONFIGURE` with both rates: only disarmed, R125. -/
  | configured (disarmed : s.ie = false) : WriteEffect i s s.configured
  /-- `ENABLE`: only configured, R126. -/
  | enabled (valid : s.cfgValid = true) : WriteEffect i s { s with ie := true }
  /-- `DISABLE`, R127. -/
  | disabled : WriteEffect i s { s with ie := false, pend := false }
  /-- `CLRTICK`, R272. -/
  | cleared (clears : i = .cmdClrtick) : WriteEffect i s { s with tickcnt := 0 }

/-- What passes the check of `LOCKED` is disarmed. -/
theorem disarmed_of_lockedRefusal (h : s.lockedRefusal = none) : s.ie = false := by
  simpa [lockedRefusal_eq] using h

/-- What passes the check of `NOT_CONFIGURED` is configured. -/
theorem valid_of_unconfiguredRefusal (h : s.unconfiguredRefusal = none) : s.cfgValid = true := by
  simpa [unconfiguredRefusal_eq] using h

/-- What passes the two checks of `SETFREQ` is disarmed (R270). -/
theorem disarmed_of_setfreqRefusal (h : s.setfreqRefusal = none) : s.ie = false := by
  cases armed : s.ie with
  | false => rfl
  | true => simp [State.setfreqRefusal, armed] at h

/-- A refusable operation has an effect of the list when what it does unrefused is one. -/
theorem writeEffect_of_unlessRefused {why : Option RefusedReason} {done : State}
    (h : unlessRefused why s done = .next t) (effect : why = none → WriteEffect i s done) : WriteEffect i s t := by
  rcases unlessRefused_cases h with ⟨r, -, rfl⟩ | ⟨passed, rfl⟩
  · exact .refused r
  · exact effect passed

/-- The effects listed are all that a write or command has. -/
theorem writeEffect_of_exec (format : i.format = .wr ∨ i.format = .cmd) (h : exec i s = .next t) :
    WriteEffect i s t := by
  cases i with
  | cmdNop => cases h; exact .nothing
  | wrClkrate k d => cases h; exact .staged ..
  | wrTgtrate k d => cases h; exact .staged ..
  | wrFreq0 k d => cases h; exact .staged ..
  | wrFreq1 k d => cases h; exact .staged ..
  | wrTblidx d => cases h; exact .staged ..
  | wrRo a d => cases h; exact .refused _
  | wrRsvd a d => cases h; exact .refused _
  | cmdRsvd code => cases h; exact .refused _
  | wrPhinc0 k d =>
    exact writeEffect_of_unlessRefused h fun passed => .retuned (disarmed_of_lockedRefusal passed) ..
  | wrPhinc1 k d =>
    exact writeEffect_of_unlessRefused h fun passed => .retuned (disarmed_of_lockedRefusal passed) ..
  | cmdSetfreq0 =>
    exact writeEffect_of_unlessRefused h fun passed => .retuned (disarmed_of_setfreqRefusal passed) ..
  | cmdSetfreq1 =>
    exact writeEffect_of_unlessRefused h fun passed => .retuned (disarmed_of_setfreqRefusal passed) ..
  | cmdConfigure =>
    refine writeEffect_of_unlessRefused h fun passed => ?_
    split
    · exact .misconfigured (disarmed_of_lockedRefusal passed)
    · exact .configured (disarmed_of_lockedRefusal passed)
  | cmdEnable =>
    exact writeEffect_of_unlessRefused h fun passed => .enabled (valid_of_unconfiguredRefusal passed)
  | cmdDisable => cases h; exact .disabled
  | cmdClrtick => cases h; exact .cleared rfl
  | _ => simp [Instr.format] at format

/-- Every command code selects an operation of format CMD (30_encoding.md R95, R96). -/
theorem decodeCmd_format (d : Byte) : (decodeCmd d).format = .cmd := by
  unfold decodeCmd
  split <;> rfl

/-- A write transaction selects an operation of format WR or CMD (R94). -/
theorem decodeWr_format (a : Addr) (d : Byte) : (decodeWr a d).format = .wr ∨ (decodeWr a d).format = .cmd := by
  unfold decodeWr
  split
  · exact .inr (decodeCmd_format d)
  all_goals exact .inl rfl

/-- Only code 0x06 is `CLRTICK` (R95). -/
theorem code_of_decodeCmd_clrtick {d : Byte} (h : decodeCmd d = .cmdClrtick) : d = 0x06 := by
  unfold decodeCmd at h
  split at h <;> cases h
  next code => exact BitVec.eq_of_toNat_eq code

/-- Byte 1 of the first word of the host space is `CMD` (20_memory.md R66). -/
theorem addr_eq_cmd_of_fields :
    ∀ a : Addr, (a.extractLsb' 2 4).toNat = 0 → (byteNumber4 a).toNat = 1 → a = 0x01 := by decide

/-- Only a write of 0x06 at `CMD` is `CLRTICK` (R95). -/
theorem fields_of_decodeWr_clrtick {a : Addr} {d : Byte} (h : decodeWr a d = .cmdClrtick) : a = 0x01 ∧ d = 0x06 := by
  unfold decodeWr at h
  split at h
  next word byte => exact ⟨addr_eq_cmd_of_fields a word byte, code_of_decodeCmd_clrtick h⟩
  all_goals cases h

/-- What a step without reset does: the free-running edge, after a byte `b` is shown as read data (0x00 without a performed read),
and then the effect of a performed write, if there is one. -/
theorem step_eq_edge_then_write (running : s.presented.rst = false) (h : step s = .next t) :
    ∃ b m, everyEdge (s.openCycle.deliver b) = .next m
      ∧ (t = m ∨ (performs s s.presented = true ∧ s.presented.hWrite = true
          ∧ WriteEffect (decodeWr s.presented.hAddr s.presented.hWdata) m t)) := by
  rcases step_cases h with ⟨reset, -⟩ | ⟨-, s1, m, read, edge, write⟩
  · simp [running] at reset
  have delivered : ∃ b, s1 = s.openCycle.deliver b := by
    rcases hostOp_read_cases read with rfl | ⟨b, rfl⟩
    · exact ⟨0x00, rfl⟩
    · exact ⟨b, rfl⟩
  obtain ⟨b, rfl⟩ := delivered
  refine ⟨b, m, edge, ?_⟩
  rcases hostOp_cases write with ⟨-, rfl⟩ | ⟨performed, isWrite, exec_eq⟩
  · exact .inl rfl
  · rw [decodeHost_word, if_pos isWrite] at exec_eq
    exact .inr ⟨performed, isWrite, writeEffect_of_exec (decodeWr_format _ _) exec_eq⟩

/-- The engine writes no register of the host, of the timebase or of the configuration (10_state.md R52). -/
theorem engineOp_keeps (h : engineOp s = .next t) :
    t.phinc0 = s.phinc0 ∧ t.phinc1 = s.phinc1 ∧ t.tbdiv = s.tbdiv ∧ t.stephz = s.stephz ∧ t.ie = s.ie
      ∧ t.cfg = s.cfg := by
  rcases engineOp_cases h with ⟨-, rfl⟩ | ⟨-, rfl⟩ | ⟨-, rfl⟩ | ⟨-, rfl⟩ | ⟨-, rfl⟩ | ⟨-, rfl⟩ <;> simp

/-- The free-running edge keeps the increments, the divisor, `STEPHZ`, `IE` and the configuration. -/
theorem everyEdge_keeps (h : everyEdge s = .next t) :
    t.phinc0 = s.phinc0 ∧ t.phinc1 = s.phinc1 ∧ t.tbdiv = s.tbdiv ∧ t.stephz = s.stephz ∧ t.ie = s.ie
      ∧ t.cfg = s.cfg := by
  obtain ⟨e, engine, rfl⟩ := everyEdge_eq_next h
  simpa using engineOp_keeps engine

/-- With the engine idle and no tick pending, the engine stays idle on the free-running edge (41_dds_engine.md R151). -/
theorem everyEdge_eng_of_hostMayAct (h : everyEdge s = .next t) (idle : s.eng = Eng.idle) (calm : s.pend = false) :
    t.eng = Eng.idle := by
  obtain ⟨e, engine, rfl⟩ := everyEdge_eq_next h
  rcases engineOp_cases engine with ⟨-, rfl⟩ | ⟨code, -⟩ | ⟨code, -⟩ | ⟨code, -⟩ | ⟨code, -⟩ | ⟨code, -⟩
  · simp [idle, calm, State.dispatches]
  all_goals simp [idle] at code

/-- A write or command has no access to the configuration (42_wavetable.md R197). -/
theorem WriteEffect.cfg_eq (h : WriteEffect i s t) : t.cfg = s.cfg := by
  cases h <;> rfl

/-- No step changes the configuration, reset included (00_scope.md R8, R197). -/
theorem step_cfg (h : step s = .next t) : t.cfg = s.cfg := by
  cases reset : s.presented.rst with
  | true =>
    rcases step_cases h with ⟨-, rfl⟩ | ⟨running, -⟩
    · simp
    · simp [reset] at running
  | false =>
    obtain ⟨b, m, edge, rest⟩ := step_eq_edge_then_write reset h
    obtain ⟨-, -, -, -, -, cfg_eq⟩ := everyEdge_keeps edge
    rcases rest with rfl | ⟨-, -, effect⟩
    · simpa using cfg_eq
    · simpa [effect.cfg_eq] using cfg_eq

end Sys2Proof.Machine
end

section
/-!
PROOFS. The invariants of 10_state.md R49: they hold after reset, each operation of a step keeps them, and so they hold in every
reachable state.
-/

namespace Sys2Proof.Machine

variable {s t : State} {i : Instr}

/-- A sample of a legal configuration is an entry of its table: an index has eight bits, and the table 256 entries (R8). -/
theorem dutyLegal_sampleOf {c : Config} (legal : c.legal = true) (acc : Word) : dutyLegal c (sampleOf c acc) := by
  obtain ⟨length_eq, -, -⟩ := (Config.legal_iff c).mp legal
  have inside : (tableIndex acc).toNat < c.wavetable.length := length_eq ▸ (tableIndex acc).isLt
  right
  rw [sampleOf, Config.sample, List.getD_eq_getElem _ _ inside]
  exact List.getElem_mem inside

/-- The chosen divisor of a legal configuration fits `TBDIV` (40_timebase.md R124, R125). -/
theorem configured_tbdiv_toNat (legal : s.cfg.legal = true) :
    s.configured.tbdiv.toNat = selectDiv s.cfg s.clkrate.toNat s.tgtrate.toNat := by
  obtain ⟨-, upper⟩ := divisor_range legal (selectDiv_mem s.cfg s.clkrate.toNat s.tgtrate.toNat)
  rw [configured_tbdiv, BitVec.toNat_ofNat, Nat.mod_eq_of_lt (by omega)]

/-- Every register at its reset value is sound (R48). -/
theorem resetWith_sound {c : Config} (legal : c.legal = true) (input : List PortIn) (out : PortOut) :
    (State.resetWith c input out).Sound := by
  have divisor := resetWith_tbdiv_toNat legal input out
  have member : c.firstDivisor ∈ c.divisors := List.mem_cons_self
  obtain ⟨positive, -⟩ := divisor_range legal member
  unfold State.Sound
  rw [divisor]
  simp [dutyLegal, legal, member, positive]

/-- After reset no tick is pending and the engine is idle, so the handler run is on time. -/
theorem resetWith_onTime (c : Config) (input : List PortIn) (out : PortOut) :
    (State.resetWith c input out).OnTime := by
  simp [State.OnTime]

/-- The outputs and the inputs of a cycle are in no clause of R49. -/
theorem openCycle_deliver_sound (sound : s.Sound) (b : Byte) : (s.openCycle.deliver b).Sound := sound

/-- The active duties are copies of the duties (43_pwm.md R212). -/
theorem carrierStep_sound (sound : s.Sound) : s.carrierStep.Sound := by
  obtain ⟨legal, code, pending, busy, flags, armed, timebase, duties, active⟩ := sound
  unfold State.carrierStep
  split
  · exact ⟨legal, code, pending, busy, flags, armed, timebase, duties, duties⟩
  · exact ⟨legal, code, pending, busy, flags, armed, timebase, duties, active⟩

/-- A dispatch needs a pending tick, and every later step of the run a started run, so `IE` is on; a duty becomes a sample. -/
theorem engineOp_sound (sound : s.Sound) (h : engineOp s = .next t) : t.Sound := by
  obtain ⟨legal, code, pending, busy, flags, armed, timebase, ⟨duty0, duty1⟩, active⟩ := sound
  have busy_of {c : EngCode} (at_c : s.eng = c) (ne : c ≠ Eng.idle) : s.ie = true := busy (at_c ▸ ne)
  rcases engineOp_cases h with ⟨-, rfl⟩ | ⟨at_step, rfl⟩ | ⟨at_step, rfl⟩ | ⟨at_step, rfl⟩ | ⟨at_step, rfl⟩ | ⟨-, rfl⟩
  · unfold State.dispatchTick
    split
    next dispatches =>
      obtain ⟨-, pend⟩ := dispatches_iff.mp dispatches
      exact ⟨legal, by simp, fun _ => pending pend, fun _ => pending pend, flags, armed, timebase, ⟨duty0, duty1⟩, active⟩
    next => exact ⟨legal, code, pending, busy, flags, armed, timebase, ⟨duty0, duty1⟩, active⟩
  · exact ⟨legal, by simp, pending, fun _ => busy_of at_step (by decide), flags, armed, timebase, ⟨duty0, duty1⟩, active⟩
  · exact ⟨legal, by simp, pending, fun _ => busy_of at_step (by decide), flags, armed, timebase,
      ⟨dutyLegal_sampleOf legal _, duty1⟩, active⟩
  · exact ⟨legal, by simp, pending, fun _ => busy_of at_step (by decide), flags, armed, timebase,
      ⟨duty0, dutyLegal_sampleOf legal _⟩, active⟩
  · exact ⟨legal, by simp, pending, fun _ => busy_of at_step (by decide), flags, armed, timebase, ⟨duty0, duty1⟩, active⟩
  · exact ⟨legal, by simp, pending, fun idle => absurd rfl idle, flags, armed, timebase, ⟨duty0, duty1⟩, active⟩

/-- Without a wrap, `PRE` stays below `TBDIV`, and so within its ten bits (40_timebase.md R121). -/
theorem timebaseCount_pre_lt (legal : s.cfg.legal = true) (member : s.tbdiv.toNat ∈ s.cfg.divisors)
    (below : s.pre.toNat < s.tbdiv.toNat) : s.timebaseCount.pre.toNat < s.tbdiv.toNat := by
  obtain ⟨positive, upper⟩ := divisor_range legal member
  rw [timebaseCount_pre]
  split
  next => simpa using positive
  next noWrap =>
    have ne : s.pre.toNat + 1 ≠ s.tbdiv.toNat := by simpa [State.prescalerWraps] using noWrap
    rw [BitVec.toNat_add_of_lt] <;> simp <;> omega

/-- The count moves only `PRE` and `TBCNT`. -/
theorem timebaseCount_eq (s : State) :
    s.timebaseCount = { s with pre := s.timebaseCount.pre, tbcnt := s.timebaseCount.tbcnt } := by
  unfold State.timebaseCount
  split <;> rfl

/-- The count keeps R49. -/
theorem timebaseCount_sound (sound : s.Sound) : s.timebaseCount.Sound := by
  obtain ⟨legal, code, pending, busy, flags, armed, ⟨member, below⟩, duties, active⟩ := sound
  have below' := timebaseCount_pre_lt legal member below
  rw [timebaseCount_eq]
  exact ⟨legal, code, pending, busy, flags, armed, ⟨member, below'⟩, duties, active⟩

/-- A tick is raised only while armed (R122). -/
theorem latchTick_sound (sound : s.Sound) (ovf : Bool) : (s.latchTick ovf).Sound := by
  obtain ⟨legal, code, pending, busy, flags, armed, timebase, duties, active⟩ := sound
  have raised : (s.latchTick ovf).pend = true → s.ie = true := by
    rw [latchTick_pend, Bool.or_eq_true, Bool.and_eq_true]
    rintro (pend | ⟨-, ie⟩)
    · exact pending pend
    · exact ie
  exact ⟨legal, code, raised, busy, flags, armed, timebase, duties, active⟩

/-- The free-running edge keeps R49. -/
theorem everyEdge_sound (sound : s.Sound) (h : everyEdge s = .next t) : t.Sound := by
  obtain ⟨e, engine, rfl⟩ := everyEdge_eq_next h
  exact latchTick_sound (timebaseCount_sound (engineOp_sound (carrierStep_sound sound) engine)) _

/-- A write or command keeps R49 when it is performed with the engine idle, as `DISABLE` needs. -/
theorem WriteEffect.sound (effect : WriteEffect i s t) (sound : s.Sound) (idle : s.eng = Eng.idle) : t.Sound := by
  have kept := sound
  obtain ⟨legal, code, pending, busy, flags, armed, timebase, duties, active⟩ := sound
  cases effect with
  | nothing => exact kept
  | refused why => exact kept
  | staged clk tgt f0 f1 index => exact kept
  | retuned _ inc0 inc1 => exact kept
  | cleared _ => exact kept
  | misconfigured disarmed =>
    refine ⟨legal, code, pending, busy, ?_, ?_, timebase, duties, active⟩
    · simp
    · simp [disarmed]
  | configured disarmed =>
    refine ⟨legal, code, pending, busy, ?_, ?_, ?_, duties, active⟩
    · simp
    · simp
    · have member := selectDiv_mem s.cfg s.clkrate.toNat s.tgtrate.toNat
      rw [configured_tbdiv_toNat legal]
      exact ⟨member, by simpa using (divisor_range legal member).1⟩
  | enabled valid => exact ⟨legal, code, fun _ => rfl, fun _ => rfl, flags, fun _ => valid, timebase, duties, active⟩
  | disabled =>
    refine ⟨legal, code, ?_, ?_, flags, ?_, timebase, duties, active⟩
    · simp
    · exact fun busyNow => absurd idle busyNow
    · simp

/-- One step keeps R49, reset or not, whatever is presented. -/
theorem step_sound (sound : s.Sound) (h : step s = .next t) : t.Sound := by
  cases reset : s.presented.rst with
  | true =>
    obtain ⟨legal, -⟩ := sound
    rcases step_cases h with ⟨-, rfl⟩ | ⟨running, -⟩
    · exact resetWith_sound legal _ _
    · simp [reset] at running
  | false =>
    obtain ⟨b, m, edge, rest⟩ := step_eq_edge_then_write reset h
    have sound_m := everyEdge_sound (openCycle_deliver_sound sound b) edge
    rcases rest with rfl | ⟨performed, -, effect⟩
    · exact sound_m
    · obtain ⟨-, -, idle, calm⟩ := performs_iff.mp performed
      exact effect.sound sound_m (everyEdge_eng_of_hostMayAct edge idle calm)

/-- What every step keeps holds after any number of steps. -/
theorem runSteps_keeps {P : State → Prop} (keeps : ∀ s t, P s → step s = .next t → P t) {n : Nat} {s t : State}
    (start : P s) (h : runSteps n s = .next t) : P t := by
  induction n generalizing s with
  | zero => cases h; exact start
  | succ n ih =>
    obtain ⟨u, first, rest⟩ := andThen_eq_next h
    exact ih (keeps s u start first) rest

/-- Every state reachable from reset is sound, with the configuration it was built with. -/
theorem sound_of_runSteps_resetWith {c : Config} (legal : c.legal = true) {input : List PortIn} {out : PortOut} {n : Nat}
    (h : runSteps n (State.resetWith c input out) = .next t) : t.Sound ∧ t.cfg = c :=
  runSteps_keeps (P := fun u => u.Sound ∧ u.cfg = c)
    (fun _ _ ⟨sound, cfg_eq⟩ next => ⟨step_sound sound next, (step_cfg next).trans cfg_eq⟩)
    ⟨resetWith_sound legal input out, rfl⟩ h

/-- The default configuration is legal (42_wavetable.md R191, R8). -/
theorem standard_legal : Config.standard.legal = true := by
  have length_eq : Config.standard.wavetable.length = tableSize := by
    show (sineQuarter0 ++ sineQuarter1 ++ sineQuarter2 ++ sineQuarter3).length = 256
    simp only [List.length_append]
    rfl
  exact (Config.legal_iff _).mpr ⟨length_eq, by decide, by decide⟩

/-- Settles O31: the base case of R49 and of the alignment of R169. -/
theorem resetIsSound : Obligations.ResetIsSound :=
  ⟨resetWith_sound standard_legal _ _, resetWith_onTime _ _ _,
    fun c input out legal => ⟨resetWith_sound legal input out, resetWith_onTime c input out⟩⟩

/-- Settles O32, phase by phase of the step. -/
theorem stepKeepsSound : Obligations.StepKeepsSound :=
  fun _ _ => step_sound

/-- Settles O33: `Sound` is inductive, and the configuration of a run never changes. -/
theorem reachableStatesAreSound : Obligations.ReachableStatesAreSound := by
  intro c input out n t legal h
  obtain ⟨sound, rfl⟩ := sound_of_runSteps_resetWith legal h
  obtain ⟨-, code, pending, busy, flags, armed, timebase, ⟨duty0, duty1⟩, active0, active1⟩ := sound
  exact ⟨code, pending, busy, flags, armed, timebase, duty0, duty1, active0, active1⟩

end Sys2Proof.Machine
end

section
/-!
PROOFS. Who writes what (10_state.md R52): the phases, duties, timestamps and the tick counter, and the registers locked while the
tick is armed.
-/

namespace Sys2Proof.Machine

variable {s t : State} {i : Instr}

/-- Each engine register is written at one step of the handler run only (41_dds_engine.md R152 to R156). -/
theorem engineOp_owns (h : engineOp s = .next t) :
    (s.eng ≠ Eng.ch0 → t.phacc0 = s.phacc0 ∧ t.duty0 = s.duty0)
      ∧ (s.eng ≠ Eng.ch1 → t.phacc1 = s.phacc1 ∧ t.duty1 = s.duty1)
      ∧ (s.eng ≠ Eng.t0 → t.tstart = s.tstart)
      ∧ (s.eng ≠ Eng.t1 → t.tstop = s.tstop)
      ∧ (s.eng ≠ Eng.cnt → t.tickcnt = s.tickcnt) := by
  rcases engineOp_cases h with ⟨-, rfl⟩ | ⟨at_step, rfl⟩ | ⟨at_step, rfl⟩ | ⟨at_step, rfl⟩ | ⟨at_step, rfl⟩
    | ⟨at_step, rfl⟩
  · simp
  all_goals simp [at_step]

/-- The carrier and the timebase write none of the engine's registers. -/
theorem everyEdge_owns (h : everyEdge s = .next t) :
    (s.eng ≠ Eng.ch0 → t.phacc0 = s.phacc0 ∧ t.duty0 = s.duty0)
      ∧ (s.eng ≠ Eng.ch1 → t.phacc1 = s.phacc1 ∧ t.duty1 = s.duty1)
      ∧ (s.eng ≠ Eng.t0 → t.tstart = s.tstart)
      ∧ (s.eng ≠ Eng.t1 → t.tstop = s.tstop)
      ∧ (s.eng ≠ Eng.cnt → t.tickcnt = s.tickcnt) := by
  obtain ⟨e, engine, rfl⟩ := everyEdge_eq_next h
  simpa using engineOp_owns engine

/-- A write or command reaches no engine register but the tick counter, and that only as `CLRTICK`. -/
theorem WriteEffect.keeps_engine (effect : WriteEffect i s t) :
    t.phacc0 = s.phacc0 ∧ t.duty0 = s.duty0 ∧ t.phacc1 = s.phacc1 ∧ t.duty1 = s.duty1 ∧ t.tstart = s.tstart
      ∧ t.tstop = s.tstop ∧ (i ≠ .cmdClrtick → t.tickcnt = s.tickcnt) := by
  cases effect with
  | cleared clears => exact ⟨rfl, rfl, rfl, rfl, rfl, rfl, fun other => absurd clears other⟩
  | _ => exact ⟨rfl, rfl, rfl, rfl, rfl, rfl, fun _ => rfl⟩

/-- While armed a write or command changes no increment, no divisor and not `STEPHZ` (R22, 60_exceptions.md R301). -/
theorem WriteEffect.keeps_locked (effect : WriteEffect i s t) (armed : s.ie = true) :
    t.phinc0 = s.phinc0 ∧ t.phinc1 = s.phinc1 ∧ t.tbdiv = s.tbdiv ∧ t.stephz = s.stephz := by
  cases effect with
  | retuned disarmed => simp [armed] at disarmed
  | configured disarmed => simp [armed] at disarmed
  | _ => exact ⟨rfl, rfl, rfl, rfl⟩

/-- A performed write that is `CLRTICK` is the one of R95. -/
theorem performsWrite_of_clrtick (performed : performs s s.presented = true) (isWrite : s.presented.hWrite = true)
    (clears : decodeWr s.presented.hAddr s.presented.hWdata = .cmdClrtick) : s.performsWrite 0x01 0x06 := by
  obtain ⟨valid, -⟩ := performs_iff.mp performed
  obtain ⟨addr_eq, data_eq⟩ := fields_of_decodeWr_clrtick clears
  exact ⟨performed, valid, isWrite, addr_eq, data_eq⟩

/-- Settles O38: the edge writes each register at its own step, and the host only clears the tick counter. -/
theorem engineOwnsPhaseAndDuty : Obligations.EngineOwnsPhaseAndDuty := by
  intro s t running h
  obtain ⟨b, m, edge, rest⟩ := step_eq_edge_then_write running h
  obtain ⟨ch0, ch1, t0, t1, cnt⟩ := everyEdge_owns edge
  rcases rest with rfl | ⟨performed, isWrite, effect⟩
  · exact ⟨ch0, ch1, t0, t1, fun code _ => cnt code⟩
  · obtain ⟨phacc0, duty0, phacc1, duty1, tstart, tstop, tickcnt⟩ := effect.keeps_engine
    rw [phacc0, duty0, phacc1, duty1, tstart, tstop]
    exact ⟨ch0, ch1, t0, t1, fun code other =>
      (tickcnt fun clears => other (performsWrite_of_clrtick performed isWrite clears)).trans (cnt code)⟩

/-- Settles O40: the edge keeps these registers and `IE`, and armed every write to them is refused. -/
theorem incrementsLockedWhileArmed : Obligations.IncrementsLockedWhileArmed := by
  intro s t running armed h
  obtain ⟨b, m, edge, rest⟩ := step_eq_edge_then_write running h
  obtain ⟨phinc0, phinc1, tbdiv, stephz, ie, -⟩ := everyEdge_keeps edge
  rcases rest with rfl | ⟨-, -, effect⟩
  · exact ⟨phinc0, phinc1, tbdiv, stephz⟩
  · obtain ⟨phinc0', phinc1', tbdiv', stephz'⟩ := effect.keeps_locked (ie.trans armed)
    exact ⟨phinc0'.trans phinc0, phinc1'.trans phinc1, tbdiv'.trans tbdiv, stephz'.trans stephz⟩

end Sys2Proof.Machine
end

section
/-!
PROOFS. The operations are the primitives of the address map (20_memory.md R66, R69): what the decoder selects at an address has the
effect that `hostRead` and `hostWrite` give the address, word by word of the host space.
-/

namespace Sys2Proof.Machine

/-- An address is a word of the host space and a byte number within it (30_encoding.md R94). -/
theorem addr_eq_append (a : Addr) : ∃ (w : BitVec 4) (k : BitVec 2), a = w ++ k :=
  ⟨a.extractLsb' 2 4, a.extractLsb' 0 2, by revert a; decide⟩

/-- The sixteen words of the host space. -/
theorem wordNumber_cases (w : BitVec 4) :
    w = 0x0 ∨ w = 0x1 ∨ w = 0x2 ∨ w = 0x3 ∨ w = 0x4 ∨ w = 0x5 ∨ w = 0x6 ∨ w = 0x7 ∨ w = 0x8 ∨ w = 0x9 ∨ w = 0xA ∨ w = 0xB
      ∨ w = 0xC ∨ w = 0xD ∨ w = 0xE ∨ w = 0xF := by
  revert w; decide

/-- Byte `k` of a word as a quotient (20_memory.md R62). -/
theorem byteOfWord_toNat (v : Word) (k : BitVec 2) : (byteOfWord v k).toNat = v.toNat / 256 ^ k.toNat % 256 := by
  have weight : (256 : Nat) ^ k.toNat = 2 ^ (8 * k.toNat) := by rw [Nat.pow_mul]
  simp [byteOfWord, BitVec.extractLsb'_toNat, Nat.shiftRight_eq_div_pow, weight]

/-- Replacing a byte by arithmetic stays within the word. -/
theorem withByteAt_toNat (v : Word) (b : Nat) (k : BitVec 2) (d : Byte) :
    (withByteAt v b (b + k.toNat) d).toNat
      = v.toNat - v.toNat / 256 ^ k.toNat % 256 * 256 ^ k.toNat + d.toNat * 256 ^ k.toNat := by
  have value_lt := v.isLt
  have data_lt := d.isLt
  simp only [withByteAt, byteAt_word, byteOfWord_toNat, Nat.add_sub_cancel_left, BitVec.toNat_ofNat]
  apply Nat.mod_eq_of_lt
  generalize v.toNat = n at *
  generalize d.toNat = m at *
  rcases byteNumber_cases k with rfl | rfl | rfl | rfl <;> simp <;> omega

/-- Replacing a byte by arithmetic is replacing it by masks: every byte of the two results agrees (R69, R77). -/
theorem withByteAt_eq_setByte (v : Word) (b : Nat) (k : BitVec 2) (d : Byte) :
    withByteAt v b (b + k.toNat) d = setByte v k d := by
  apply word_ext_bytes
  intro j
  apply BitVec.eq_of_toNat_eq
  rw [byteOfWord_setByte, byteOfWord_toNat, withByteAt_toNat, apply_ite BitVec.toNat, byteOfWord_toNat]
  have data_lt := d.isLt
  generalize v.toNat = n
  generalize d.toNat = m at *
  rcases byteNumber_cases k with rfl | rfl | rfl | rfl <;> rcases byteNumber_cases j with rfl | rfl | rfl | rfl <;>
    simp <;> omega

/-- The 32-bit register that fills word `w` of the host space, if one does (R66). -/
def State.wordAt (s : State) (w : BitVec 4) : Option Word :=
  match w.toNat with
  | 0x1 => some s.clkrate
  | 0x2 => some s.tgtrate
  | 0x3 => some s.stephz
  | 0x4 => some s.freq0
  | 0x5 => some s.freq1
  | 0x6 => some s.phinc0
  | 0x7 => some s.phinc1
  | 0x8 => some s.phacc0
  | 0x9 => some s.phacc1
  | _ => none

variable {s : State} {w : BitVec 4} {v : Word}

/-- The address map shows the bytes of such a register. -/
theorem hostRead_of_wordAt (h : s.wordAt w = some v) (k : BitVec 2) : hostRead s (w ++ k) = byteOfWord v k := by
  rw [← byteAt_word v (4 * w.toNat)]
  rcases wordNumber_cases w with
    rfl | rfl | rfl | rfl | rfl | rfl | rfl | rfl | rfl | rfl | rfl | rfl | rfl | rfl | rfl | rfl <;> cases h
  all_goals rcases byteNumber_cases k with rfl | rfl | rfl | rfl <;> rfl

/-- The decoder selects the read of the same byte. -/
theorem exec_decodeRd_of_wordAt (h : s.wordAt w = some v) (k : BitVec 2) :
    exec (decodeRd (w ++ k)) s = .next (s.deliver (byteOfWord v k)) := by
  rcases wordNumber_cases w with
    rfl | rfl | rfl | rfl | rfl | rfl | rfl | rfl | rfl | rfl | rfl | rfl | rfl | rfl | rfl | rfl <;> cases h
  all_goals rcases byteNumber_cases k with rfl | rfl | rfl | rfl <;> rfl

/-- The words of the host space that no 32-bit register fills. -/
theorem wordNumber_of_wordAt_none (h : s.wordAt w = none) :
    w = 0x0 ∨ w = 0xA ∨ w = 0xB ∨ w = 0xC ∨ w = 0xD ∨ w = 0xE ∨ w = 0xF := by
  rcases wordNumber_cases w with
    rfl | rfl | rfl | rfl | rfl | rfl | rfl | rfl | rfl | rfl | rfl | rfl | rfl | rfl | rfl | rfl <;> cases h
  all_goals decide

/-- A read at `a` delivers `HostRead(a)` (R69). -/
theorem exec_decodeRd (a : Addr) (s : State) : exec (decodeRd a) s = .next (s.deliver (hostRead s a)) := by
  obtain ⟨w, k, rfl⟩ := addr_eq_append a
  cases filled : s.wordAt w with
  | some v => rw [exec_decodeRd_of_wordAt filled, hostRead_of_wordAt filled]
  | none =>
    have half (v : Half) (b : Nat) (k : BitVec 1) :
        (.next (s.deliver (byteOfHalf v k)) : Result) = .next (s.deliver (byteAt v.toNat b (b + k.toNat))) := by
      rw [byteAt_half]
    rcases wordNumber_of_wordAt_none filled with rfl | rfl | rfl | rfl | rfl | rfl | rfl
    · -- `STATUS`, `CMD`, `TBDIV`
      rcases byteNumber_cases k with rfl | rfl | rfl | rfl
      · rfl
      · rfl
      · exact half s.tbdiv 0x02 0
      · exact half s.tbdiv 0x02 1
    · -- `TICKCNT`, `TSTART`, `TSTOP`
      rcases byteNumber_cases k with rfl | rfl | rfl | rfl
      · exact half s.tickcnt 0x28 0
      · exact half s.tickcnt 0x28 1
      · rfl
      · rfl
    all_goals rcases byteNumber_cases k with rfl | rfl | rfl | rfl <;> rfl

/-- A command refused while armed, as an assignment. -/
theorem unlessRefused_lockedRefusal (s done : State) :
    unlessRefused s.lockedRefusal s done = .next (if s.ie then refuseIn .locked s else done) := by
  unfold State.lockedRefusal
  split <;> rfl

/-- A command refused without a successful `CONFIGURE`, as an assignment. -/
theorem unlessRefused_unconfiguredRefusal (s done : State) :
    unlessRefused s.unconfiguredRefusal s done = .next (if s.cfgValid then done else refuseIn .notConfigured s) := by
  unfold State.unconfiguredRefusal
  split <;> rfl

/-- `SETFREQ` with its two refusals in their order, as an assignment (44_host_ops.md R270). -/
theorem unlessRefused_setfreqRefusal (s done : State) :
    unlessRefused s.setfreqRefusal s done
      = .next (if s.ie then refuseIn .locked s else if !s.cfgValid then refuseIn .notConfigured s else done) := by
  unfold State.setfreqRefusal
  cases s.ie
  · cases valid : s.cfgValid <;> simp [State.unconfiguredRefusal, valid, unlessRefused, refuseIn, State.raiseRefused]
  · rfl

/-- The tuning word as the spec writes it (R270). -/
theorem phaseIncrement_eq_ofNat (freq stephz : Word) :
    phaseIncrement freq stephz = BitVec.ofNat 32 (freq.toNat * stephz.toNat) := by
  simp [phaseIncrement, BitVec.ofNat_mul]

/-- A write of `d` to `CMD` performs the command `d` of the table of 30_encoding.md R95. -/
theorem exec_decodeCmd (d : Byte) (s : State) : exec (decodeCmd d) s = .next (performCommand s d s) := by
  unfold decodeCmd
  split
  next code => simp [performCommand, code]
  next code =>
    rw [exec_cmdConfigure, unlessRefused_lockedRefusal]
    simp [performCommand, code, State.configured, stepsPerHz]
  next code =>
    rw [exec_cmdEnable, unlessRefused_unconfiguredRefusal]
    simp [performCommand, code]
  next code => simp [performCommand, code]
  next code =>
    rw [exec_cmdSetfreq0, unlessRefused_setfreqRefusal, phaseIncrement_eq_ofNat]
    simp [performCommand, code]
  next code =>
    rw [exec_cmdSetfreq1, unlessRefused_setfreqRefusal, phaseIncrement_eq_ofNat]
    simp [performCommand, code]
  next code => simp [performCommand, code]
  next => simp_all [performCommand, refuseIn, State.raiseRefused]

/-- A write of `d` at `a` has the effect of `HostWrite(a, d)` (R69). -/
theorem exec_decodeWr (a : Addr) (d : Byte) (s : State) : exec (decodeWr a d) s = .next (hostWrite s a d s) := by
  obtain ⟨w, k, rfl⟩ := addr_eq_append a
  have stored (set : Word → State) (v : Word) (b : Nat) :
      (.next (set (setByte v k d)) : Result) = .next (set (withByteAt v b (b + k.toNat) d)) := by
    rw [withByteAt_eq_setByte]
  have retuned (set : Word → State) (v : Word) (b : Nat) :
      unlessRefused s.lockedRefusal s (set (setByte v k d))
        = .next (if s.ie then refuseIn .locked s else set (withByteAt v b (b + k.toNat) d)) := by
    rw [withByteAt_eq_setByte, unlessRefused_lockedRefusal]
  rcases wordNumber_cases w with
    rfl | rfl | rfl | rfl | rfl | rfl | rfl | rfl | rfl | rfl | rfl | rfl | rfl | rfl | rfl | rfl
  · -- `CMD` among read-only bytes
    rcases byteNumber_cases k with rfl | rfl | rfl | rfl
    · rfl
    · exact exec_decodeCmd d s
    · rfl
    · rfl
  · -- `CLKRATE`
    rcases byteNumber_cases k with rfl | rfl | rfl | rfl <;> exact stored ({ s with clkrate := · }) s.clkrate 0x04
  · -- `TGTRATE`
    rcases byteNumber_cases k with rfl | rfl | rfl | rfl <;> exact stored ({ s with tgtrate := · }) s.tgtrate 0x08
  · -- `STEPHZ`, read-only
    rcases byteNumber_cases k with rfl | rfl | rfl | rfl <;> rfl
  · -- `FREQ[0]`
    rcases byteNumber_cases k with rfl | rfl | rfl | rfl <;> exact stored ({ s with freq0 := · }) s.freq0 0x10
  · -- `FREQ[1]`
    rcases byteNumber_cases k with rfl | rfl | rfl | rfl <;> exact stored ({ s with freq1 := · }) s.freq1 0x14
  · -- `PHINC[0]`
    rcases byteNumber_cases k with rfl | rfl | rfl | rfl <;> exact retuned ({ s with phinc0 := · }) s.phinc0 0x18
  · -- `PHINC[1]`
    rcases byteNumber_cases k with rfl | rfl | rfl | rfl <;> exact retuned ({ s with phinc1 := · }) s.phinc1 0x1C
  -- From 0x20 on: `TBLIDX` is stored as it is, every other address is read-only or reserved.
  all_goals rcases byteNumber_cases k with rfl | rfl | rfl | rfl <;> rfl

/-- Settles O9, a read and a write at every address. -/
theorem operationsAreTheAddressMap : Obligations.OperationsAreTheAddressMap := by
  intro a d s
  rw [decodeHost_ofFields, decodeHost_ofFields]
  exact ⟨exec_decodeRd a s, exec_decodeWr a d s⟩

end Sys2Proof.Machine
end

section
/-!
PROOFS. The free-running edge (70_reset_and_hazards.md R351, steps 1 to 4) under the invariants: where it leaves the timebase, the
engine and the pending latch, and that it keeps the alignment of the handler run with the tick period (41_dds_engine.md R169).
-/

namespace Sys2Proof.Machine

variable {s t : State}

/-- The free-running edge is what the engine leaves, counted and latched. -/
theorem everyEdge_of_engineOp {e : State} (engine : engineOp s.carrierStep = .next e) :
    everyEdge s = .next (e.timebaseCount.latchTick s.overflows) := by
  simp [everyEdge, engine]

/-- With a code the table of R98 has, the free-running edge completes. -/
theorem everyEdge_completes (code : s.eng.toNat ≤ 5) : ∃ t, everyEdge s = .next t := by
  obtain ⟨e, engine⟩ := engineOp_completes (s := s.carrierStep) (by simpa using code)
  exact ⟨_, everyEdge_of_engineOp engine⟩

/-- The engine moves neither the timebase nor the inputs (10_state.md R52). -/
theorem engineOp_keeps_timebase (h : engineOp s = .next t) :
    t.tbdiv = s.tbdiv ∧ t.pre = s.pre ∧ t.tbcnt = s.tbcnt ∧ t.input = s.input := by
  rcases engineOp_cases h with ⟨-, rfl⟩ | ⟨-, rfl⟩ | ⟨-, rfl⟩ | ⟨-, rfl⟩ | ⟨-, rfl⟩ | ⟨-, rfl⟩ <;> simp

/-- On the free-running edge the timebase counts from its own pre-edge values (40_timebase.md R121), and no input is taken. -/
theorem everyEdge_timebase (h : everyEdge s = .next t) :
    t.tbdiv = s.tbdiv ∧ t.pre = s.timebaseCount.pre ∧ t.tbcnt = s.timebaseCount.tbcnt ∧ t.input = s.input := by
  obtain ⟨e, engine, rfl⟩ := everyEdge_eq_next h
  obtain ⟨tbdiv, pre, tbcnt, input⟩ := engineOp_keeps_timebase engine
  simp [State.prescalerWraps, tbdiv, pre, tbcnt, input]

/-- Where the free-running edge leaves `ENG` and `PEND`: at rest it waits for a tick, a pending tick is dispatched, and a handler
run goes one step on (R122, R151 to R156). -/
theorem everyEdge_phase (h : everyEdge s = .next t) :
    (s.eng = Eng.idle ∧ s.pend = false ∧ t.eng = Eng.idle ∧ t.pend = (s.overflows && s.ie))
      ∨ (s.eng = Eng.idle ∧ s.pend = true ∧ t.eng = Eng.t0 ∧ t.pend = (s.overflows && s.ie))
      ∨ (s.eng ≠ Eng.idle ∧ t.eng.toNat = (s.eng.toNat + 1) % 6 ∧ t.pend = (s.pend || (s.overflows && s.ie))) := by
  obtain ⟨e, engine, rfl⟩ := everyEdge_eq_next h
  rcases engineOp_cases engine with ⟨code, rfl⟩ | ⟨code, rfl⟩ | ⟨code, rfl⟩ | ⟨code, rfl⟩ | ⟨code, rfl⟩ | ⟨code, rfl⟩
  · rw [carrierStep_eng] at code
    cases pend : s.pend <;> simp [State.dispatches, code, pend]
  all_goals
    rw [carrierStep_eng] at code
    simp [code]

/-- In a sound state `ENG` holds a code of the table (10_state.md R49 (a)). -/
theorem eng_le_of_sound (sound : s.Sound) : s.eng.toNat ≤ 5 := by
  obtain ⟨-, code, -⟩ := sound
  exact code

/-- An overflow is the last edge of a period (R121, R123). -/
theorem position_succ_of_overflows (h : s.overflows = true) : s.position + 1 = s.tickPeriod := by
  obtain ⟨wraps, last⟩ := overflows_iff.mp h
  simp only [State.position, State.tickPeriod, tbModulus, last, ← wraps]
  simp
  omega

/-- A period has at least the 256 cycles of divisor 1. -/
theorem tickPeriod_ge (sound : s.Sound) : 256 ≤ s.tickPeriod := by
  obtain ⟨-, -, -, -, -, -, ⟨-, below⟩, -, -⟩ := sound
  simp only [State.tickPeriod, tbModulus]
  omega

/-- The count moves the position on by one, modulo the period (R121, R123). -/
theorem timebaseCount_position (sound : s.Sound) : s.timebaseCount.position = (s.position + 1) % s.tickPeriod := by
  obtain ⟨legal, -, -, -, -, -, ⟨member, below⟩, -, -⟩ := sound
  obtain ⟨positive, upper⟩ := divisor_range legal member
  cases wraps : s.prescalerWraps with
  | true =>
    have last : s.pre.toNat + 1 = s.tbdiv.toNat := by simpa [State.prescalerWraps] using wraps
    have next_count : s.position + 1 = (s.tbcnt.toNat + 1) * s.tbdiv.toNat := by
      rw [State.position, add_assoc, last, Nat.succ_mul]
    rw [next_count, State.tickPeriod, Nat.mul_mod_mul_right]
    simp [State.position, wraps]
  | false =>
    have notLast : s.pre.toNat + 1 ≠ s.tbdiv.toNat := by simpa [State.prescalerWraps] using wraps
    have count : s.tbcnt.toNat * s.tbdiv.toNat + s.tbdiv.toNat ≤ 256 * s.tbdiv.toNat := by
      rw [← Nat.succ_mul]
      exact Nat.mul_le_mul_right _ s.tbcnt.isLt
    have pre_succ : (s.pre + 1).toNat = s.pre.toNat + 1 :=
      BitVec.toNat_add_of_lt (by simp; omega)
    rw [Nat.mod_eq_of_lt]
    · simp only [State.position, timebaseCount_tbcnt, timebaseCount_tbdiv, timebaseCount_pre, wraps, if_neg Bool.false_ne_true,
        pre_succ, add_assoc]
    · simp only [State.position, State.tickPeriod, tbModulus]
      omega

/-- The free-running edge moves the position on by one, modulo the period (R123). -/
theorem everyEdge_position (sound : s.Sound) (h : everyEdge s = .next t) :
    t.position = (s.position + 1) % s.tickPeriod := by
  obtain ⟨tbdiv, pre, tbcnt, -⟩ := everyEdge_timebase h
  rw [← timebaseCount_position sound]
  simp only [State.position, tbdiv, pre, tbcnt, timebaseCount_tbdiv]

/-- During a pending tick and a handler run the count is far from its overflow, so no second tick is raised (60_exceptions.md
R311). -/
theorem overflows_eq_false_of_held (sound : s.Sound) (onTime : s.OnTime) (held : s.eng ≠ Eng.idle ∨ s.pend = true) :
    s.overflows = false := by
  have early : s.position ≤ 5 := by
    have code := eng_le_of_sound sound
    obtain ⟨pending, busy⟩ := onTime
    rcases held with eng | pend
    · obtain ⟨-, position⟩ := busy eng
      omega
    · obtain ⟨-, position⟩ := pending pend
      omega
  have period := tickPeriod_ge sound
  by_contra overflows
  have := position_succ_of_overflows (by simpa using overflows)
  omega

/-- The free-running edge keeps the alignment of R169. -/
theorem everyEdge_onTime (sound : s.Sound) (onTime : s.OnTime) (h : everyEdge s = .next t) : t.OnTime := by
  have position := everyEdge_position sound h
  have period := tickPeriod_ge sound
  have code := eng_le_of_sound sound
  obtain ⟨pending, busy⟩ := onTime
  rcases everyEdge_phase h with ⟨-, -, eng', pend'⟩ | ⟨-, pend, eng', pend'⟩ | ⟨eng, eng', pend'⟩
  · refine ⟨fun raised => ⟨eng', ?_⟩, fun started => absurd eng' started⟩
    rw [pend', Bool.and_eq_true] at raised
    rw [position, position_succ_of_overflows raised.1, Nat.mod_self]
  · have quiet := overflows_eq_false_of_held sound ⟨pending, busy⟩ (.inr pend)
    obtain ⟨-, start⟩ := pending pend
    rw [start, Nat.mod_eq_of_lt (by omega)] at position
    simp [State.OnTime, eng', pend', quiet, position]
  · have quiet := overflows_eq_false_of_held sound ⟨pending, busy⟩ (.inl eng)
    obtain ⟨pend, place⟩ := busy eng
    rw [place, Nat.mod_eq_of_lt (by omega)] at position
    refine ⟨by simp [pend', pend, quiet], fun eng'_ne => ⟨by simp [pend', pend, quiet], ?_⟩⟩
    have : t.eng.toNat ≠ 0 := fun zero => eng'_ne (BitVec.eq_of_toNat_eq zero)
    omega

end Sys2Proof.Machine
end

section
/-!
PROOFS. What a cycle without a performed write does (20_memory.md R65, R76): a held transaction leaves no trace, and a read shows its
byte.
-/

namespace Sys2Proof.Machine

variable {s t : State}

/-! The read data are seen by no operation of the edge. -/

theorem carrierStep_deliver (s : State) (b : Byte) : (s.deliver b).carrierStep = s.carrierStep.deliver b := by
  unfold State.carrierStep
  rw [deliver_pwmcnt]
  split <;> rfl

theorem timebaseCount_deliver (s : State) (b : Byte) : (s.deliver b).timebaseCount = s.timebaseCount.deliver b := by
  show (if s.prescalerWraps then _ else _) = State.deliver (if s.prescalerWraps then _ else _) b
  split <;> rfl

theorem dispatchTick_deliver (s : State) (b : Byte) : (s.deliver b).dispatchTick = s.dispatchTick.deliver b := by
  show (if s.dispatches then _ else _) = State.deliver (if s.dispatches then _ else _) b
  split <;> rfl

theorem engineOp_deliver (h : engineOp s = .next t) (b : Byte) : engineOp (s.deliver b) = .next (t.deliver b) := by
  unfold engineOp
  rw [deliver_eng]
  rcases engineOp_cases h with ⟨code, rfl⟩ | ⟨code, rfl⟩ | ⟨code, rfl⟩ | ⟨code, rfl⟩ | ⟨code, rfl⟩ | ⟨code, rfl⟩
  · rw [code, ← dispatchTick_deliver]
    rfl
  all_goals
    rw [code]
    rfl

theorem everyEdge_deliver (h : everyEdge s = .next t) (b : Byte) : everyEdge (s.deliver b) = .next (t.deliver b) := by
  obtain ⟨e, engine, rfl⟩ := everyEdge_eq_next h
  have engine' := engineOp_deliver engine b
  rw [← carrierStep_deliver] at engine'
  rw [everyEdge_of_engineOp engine', timebaseCount_deliver]
  rfl

/-- Without a performed transaction a cycle is the free-running edge (R76). -/
theorem step_of_not_performed (running : s.presented.rst = false) (held : performs s s.presented = false) :
    step s = everyEdge s.openCycle := by
  unfold step clockCycle hostOp
  simp only [running, held, Bool.false_and, Bool.false_eq_true, if_false, andThen_next]
  cases everyEdge s.openCycle <;> rfl

/-- A cycle that presents a read is the free-running edge after the byte of the address is shown, 0x00 if the read is not performed
(R65, 30_encoding.md R106). -/
theorem step_of_read (running : s.presented.rst = false) (isRead : s.presented.hWrite = false) :
    step s = everyEdge (s.openCycle.deliver
      (if performs s s.presented then hostRead s s.presented.hAddr else 0x00)) := by
  cases performed : performs s s.presented with
  | false => exact step_of_not_performed running performed
  | true =>
    have read := exec_decodeRd s.presented.hAddr s.openCycle
    unfold step clockCycle hostOp
    simp only [running, performed, isRead, decodeHost_word, read, Bool.false_eq_true, if_false, andThen_next, beq_self_eq_true,
      Bool.and_self, if_true, Bool.false_beq, Bool.not_true, Bool.and_false]
    change andThen (everyEdge (s.openCycle.deliver (hostRead s s.presented.hAddr))) _ = _
    cases everyEdge (s.openCycle.deliver (hostRead s s.presented.hAddr)) <;> rfl

/-- With a tick pending or the engine busy no transaction is performed (R76). -/
theorem performs_eq_false_of_held (held : s.eng ≠ Eng.idle ∨ s.pend = true) (p : PortIn) : performs s p = false := by
  by_contra performed
  obtain ⟨-, -, idle, calm⟩ := performs_iff.mp (by simpa using performed)
  rcases held with busy | pend
  · exact busy idle
  · simp [calm] at pend

/-- With a tick pending or the engine busy a step is the free-running edge. -/
theorem step_of_held (running : s.presented.rst = false) (held : s.eng ≠ Eng.idle ∨ s.pend = true) :
    step s = everyEdge s.openCycle :=
  step_of_not_performed running (performs_eq_false_of_held held _)

/-- Short of reset, what is presented does not show in the opened cycle (30_encoding.md R106). -/
theorem openCycle_of_running (s : State) {p : PortIn} (rest : List PortIn) (running : p.rst = false) :
    { s with input := p :: rest }.openCycle = { s with input := PortIn.idle :: rest }.openCycle := by
  simp [State.openCycle, State.presented, State.pwmOut, hReady, State.hostMayAct, PortIn.idle, running]

/-- Settles O29: both steps are the free-running edge of the same opened cycle. -/
theorem heldTransactionHasNoEffect : Obligations.HeldTransactionHasNoEffect := by
  intro s p rest running held
  rw [step_of_held (s := { s with input := p :: rest }) running held,
    step_of_held (s := { s with input := PortIn.idle :: rest }) rfl held, openCycle_of_running s rest running]

/-- Settles O30: the edge carries the byte that the read shows through to the end, and does nothing else with it. -/
theorem readsHaveNoSideEffect : Obligations.ReadsHaveNoSideEffect := by
  intro s p rest running isRead code
  have read := step_of_read (s := { s with input := p :: rest }) running isRead
  have quiet := step_of_not_performed (s := { s with input := PortIn.idle :: rest }) rfl rfl
  obtain ⟨u, edge⟩ := everyEdge_completes (s := { s with input := PortIn.idle :: rest }.openCycle) code
  rw [openCycle_of_running s rest running] at read
  exact ⟨_, u, read.trans (everyEdge_deliver edge _), quiet.trans edge, rfl⟩

/-- The engine writes none of the registers that only hold what the host wrote, and no flag (10_state.md R52). -/
theorem engineOp_keeps_staged (h : engineOp s = .next t) :
    t.freq0 = s.freq0 ∧ t.freq1 = s.freq1 ∧ t.clkrate = s.clkrate ∧ t.tgtrate = s.tgtrate ∧ t.tblidx = s.tblidx
      ∧ t.cfgValid = s.cfgValid ∧ t.cfgErr = s.cfgErr ∧ t.refused = s.refused ∧ t.refusedWhy = s.refusedWhy := by
  rcases engineOp_cases h with ⟨-, rfl⟩ | ⟨-, rfl⟩ | ⟨-, rfl⟩ | ⟨-, rfl⟩ | ⟨-, rfl⟩ | ⟨-, rfl⟩ <;> simp

/-- Neither does the rest of the free-running edge. -/
theorem everyEdge_keeps_staged (h : everyEdge s = .next t) :
    t.freq0 = s.freq0 ∧ t.freq1 = s.freq1 ∧ t.clkrate = s.clkrate ∧ t.tgtrate = s.tgtrate ∧ t.tblidx = s.tblidx
      ∧ t.cfgValid = s.cfgValid ∧ t.cfgErr = s.cfgErr ∧ t.refused = s.refused ∧ t.refusedWhy = s.refusedWhy := by
  obtain ⟨e, engine, rfl⟩ := everyEdge_eq_next h
  simpa using engineOp_keeps_staged engine

/-- Settles O39: the step is the free-running edge, which keeps every one of them. -/
theorem hostRegistersHoldDuringARun : Obligations.HostRegistersHoldDuringARun := by
  intro s t running held h
  rw [step_of_held running held] at h
  obtain ⟨phinc0, phinc1, tbdiv, stephz, ie, -⟩ := everyEdge_keeps h
  obtain ⟨freq0, freq1, clkrate, tgtrate, tblidx, cfgValid, cfgErr, refused, refusedWhy⟩ := everyEdge_keeps_staged h
  exact ⟨phinc0, phinc1, freq0, freq1, clkrate, tgtrate, stephz, tbdiv, tblidx, ie, cfgValid, cfgErr, refused, refusedWhy⟩

end Sys2Proof.Machine
end

section
/-!
PROOFS. How long a transaction waits (R76, 70_reset_and_hazards.md R364): the cycles to the next one in which the host may act go
down by one on every edge of a wait.
-/

namespace Sys2Proof.Machine

variable {s t : State}

/-- The cycles that a transaction presented now has to wait: none at rest, six from a pending tick, and in a handler run those of the
steps that are left. -/
def State.waitCycles (s : State) : Nat :=
  if s.pend then 6 else if s.eng = Eng.idle then 0 else 6 - s.eng.toNat

/-- The bound of R364. -/
theorem waitCycles_le_six (s : State) : s.waitCycles ≤ 6 := by
  unfold State.waitCycles
  split_ifs <;> omega

/-- There is nothing to wait for exactly when the host may act (R76). -/
theorem waitCycles_eq_zero_iff (code : s.eng.toNat ≤ 5) : s.waitCycles = 0 ↔ s.eng = Eng.idle ∧ s.pend = false := by
  unfold State.waitCycles
  split_ifs with pend idle
  · simp [pend]
  · simp [pend, idle]
  · simp only [idle, false_and, iff_false]
    omega

/-- An edge of a wait leaves one cycle less to wait: a pending tick is dispatched, a handler run goes one step on, and no tick is
raised. -/
theorem everyEdge_waitCycles (sound : s.Sound) (onTime : s.OnTime) (held : s.eng ≠ Eng.idle ∨ s.pend = true)
    (h : everyEdge s = .next t) : t.waitCycles + 1 = s.waitCycles := by
  have quiet := overflows_eq_false_of_held sound onTime held
  have code := eng_le_of_sound sound
  obtain ⟨-, busy⟩ := onTime
  rcases everyEdge_phase h with ⟨idle, calm, -, -⟩ | ⟨-, pend, eng', pend'⟩ | ⟨eng, eng', pend'⟩
  · simp [idle, calm] at held
  · simp [State.waitCycles, pend, eng', pend', quiet]
  · obtain ⟨pend, -⟩ := busy eng
    have started : t.eng = Eng.idle ↔ t.eng.toNat = 0 := BitVec.toNat_inj.symm
    simp only [State.waitCycles, pend, pend', quiet, eng, started, eng', Bool.false_and, Bool.or_self, Bool.false_eq_true,
      if_false]
    split <;> omega

/-- A run without reset begins with a cycle without reset, and goes on so. -/
theorem noResetFor_succ {n : Nat} (h : s.noResetFor (n + 1)) :
    s.presented.rst = false ∧ ∀ p ∈ s.input.tail.take n, p.rst = false := by
  unfold State.presented
  cases inputs : s.input with
  | nil => exact ⟨rfl, by simp⟩
  | cons p rest => simpa [State.noResetFor, inputs] using h

/-- After the cycles of the wait the host may act. -/
theorem hostMayAct_after_waitCycles {n : Nat} (sound : s.Sound) (onTime : s.OnTime) (wait : s.waitCycles = n)
    (running : s.noResetFor n) : ∃ t, runSteps n s = .next t ∧ t.eng = Eng.idle ∧ t.pend = false := by
  have code := eng_le_of_sound sound
  induction n generalizing s with
  | zero => exact ⟨s, rfl, (waitCycles_eq_zero_iff code).mp wait⟩
  | succ n ih =>
    obtain ⟨now, later⟩ := noResetFor_succ running
    have held : s.eng ≠ Eng.idle ∨ s.pend = true := by
      by_contra rest
      have := (waitCycles_eq_zero_iff code).mpr (by simpa using rest)
      omega
    obtain ⟨u, edge⟩ := everyEdge_completes (s := s.openCycle) code
    have first : step s = .next u := (step_of_held now held).trans edge
    have sound_u := step_sound sound first
    have onTime_u := everyEdge_onTime (s := s.openCycle) sound onTime edge
    have wait_u : u.waitCycles + 1 = s.waitCycles := everyEdge_waitCycles (s := s.openCycle) sound onTime held edge
    obtain ⟨-, -, -, input⟩ := everyEdge_timebase edge
    have running_u : u.noResetFor n := by
      unfold State.noResetFor
      rw [input]
      exact later
    obtain ⟨t, rest, ready⟩ := ih sound_u onTime_u (by omega) running_u (eng_le_of_sound sound_u)
    exact ⟨t, by simpa [runSteps, first] using rest, ready⟩

/-- Settles O46: the wait is at most six cycles, and each of them brings the core nearer. -/
theorem hostWaitsAtMostSixCycles : Obligations.HostWaitsAtMostSixCycles := by
  intro s sound onTime running
  have bound := waitCycles_le_six s
  have running' : s.noResetFor s.waitCycles := fun p hp => running p (List.take_subset_take_left _ bound hp)
  exact ⟨s.waitCycles, bound, hostMayAct_after_waitCycles sound onTime rfl running'⟩

end Sys2Proof.Machine
end

section
/-!
PROOFS. The litmus of 20_memory.md R64: a tick counted between the reads of the two bytes of `TICKCNT`.
-/

namespace Sys2Proof.Machine

/-- An armed core at divisor 1, in the last cycle of a tick period with 0x00FF ticks counted, and a host that reads the low byte of
`TICKCNT` now and asks for the high byte from then on. -/
def tornReadStart : State :=
  { State.reset with
    cfgValid := true, ie := true, tbcnt := 255, tickcnt := 0x00FF
    input := ⟨false, true, false, 0x28, 0⟩ :: List.replicate 7 ⟨false, true, false, 0x29, 0⟩ }

/-- One cycle on: the low byte is read, and a tick is pending. -/
def tornReadLow : State :=
  { tornReadStart with
    tbcnt := 0, pwmcnt := 1, pend := true
    input := List.replicate 7 ⟨false, true, false, 0x29, 0⟩, out := ⟨true, 0xFF, 0⟩ }

/-- Seven cycles on: the tick is counted, and the high byte is read in the first cycle after its handler run. -/
def tornReadHigh : State :=
  { tornReadLow with
    tbcnt := 7, pwmcnt := 8, pend := false, tstart := 1, tstop := 4, duty0 := 127, duty1 := 127, tickcnt := 0x0100
    input := [], out := ⟨true, 0x01, 0⟩ }

theorem tornReadStart_sound : tornReadStart.Sound :=
  ⟨standard_legal, by decide, by decide, by decide, by decide, by decide, by decide, by decide, by decide⟩

theorem tornReadStart_onTime : tornReadStart.OnTime := by decide

theorem step_tornReadStart : step tornReadStart = .next tornReadLow := rfl

theorem runSteps_tornReadLow : runSteps 7 tornReadLow = .next tornReadHigh := rfl

/-- Settles O53: the host assembles 0x01FF, while the counter went from 0x00FF to 0x0100. -/
theorem tornReadOfTheTickCounter : Obligations.TornReadOfTheTickCounter :=
  ⟨tornReadStart, tornReadLow, tornReadHigh, 7, tornReadStart_sound, tornReadStart_onTime, rfl, rfl, step_tornReadStart,
    rfl, rfl, rfl, fun _ asked => List.eq_of_mem_replicate asked, runSteps_tornReadLow, rfl, rfl, rfl⟩

end Sys2Proof.Machine
end

section
/-!
PROOFS. The decoder and the encoder of 30_encoding.md R93 to R105: what an address or a code is decoded to, that what is decoded is
well formed and encodes back, and that decode reads every selector back, also from its bytes.
-/

namespace Sys2Proof

open Machine

/-! The sets of addresses and codes as ranges, in the numbers that the decoder compares. -/

/-- Bits 5:2 of an address. -/
theorem wordNumber_toNat (a : Addr) : (a.extractLsb' 2 4).toNat = a.toNat / 4 := by
  have bound := a.isLt
  simp only [BitVec.extractLsb'_toNat, Nat.shiftRight_eq_div_pow]
  omega

/-- Bits 1:0 of an address. -/
theorem byteNumber4_toNat (a : Addr) : (byteNumber4 a).toNat = a.toNat % 4 := by
  simp [byteNumber4, BitVec.extractLsb'_toNat]

theorem reservedAddr_iff {a : Addr} : reservedAddr a = true ↔ a.toNat = 0x2F ∨ 0x32 ≤ a.toNat := by
  simp [reservedAddr, BitVec.toNat_eq]

theorem readOnlyAddr_iff {a : Addr} :
    readOnlyAddr a = true ↔ a.toNat = 0x00 ∨ a.toNat = 0x02 ∨ a.toNat = 0x03 ∨ (0x0C ≤ a.toNat ∧ a.toNat ≤ 0x0F)
      ∨ (0x20 ≤ a.toNat ∧ a.toNat ≤ 0x2E) ∨ a.toNat = 0x31 := by
  simp [readOnlyAddr, BitVec.toNat_eq, or_assoc]

theorem reservedCode_iff {d : Byte} : reservedCode d = true ↔ 0x07 ≤ d.toNat := by
  simp [reservedCode]

/-! Decoding the operations that cover a set: only the branches of the decoder that give them are open to the set. -/

/-- A read of a reserved address is `RD.RSVD` (20_memory.md R67, 44_host_ops.md R251). -/
theorem decodeRd_of_reservedAddr {a : Addr} (reserved : reservedAddr a = true) : decodeRd a = .rdRsvd a := by
  have range := reservedAddr_iff.mp reserved
  unfold decodeRd
  rw [wordNumber_toNat, byteNumber4_toNat]
  split
  case h_21 => rfl
  all_goals grind

/-- A write to a reserved address is `WR.RSVD` (20_memory.md R67, 44_host_ops.md R265). -/
theorem decodeWr_of_reservedAddr {a : Addr} (reserved : reservedAddr a = true) (d : Byte) : decodeWr a d = .wrRsvd a d := by
  have range := reservedAddr_iff.mp reserved
  unfold decodeWr
  rw [wordNumber_toNat, byteNumber4_toNat]
  split
  case h_13 | h_17 => rfl
  all_goals grind

/-- A write to a read-only address is `WR.RO` (20_memory.md R68, 44_host_ops.md R264). -/
theorem decodeWr_of_readOnlyAddr {a : Addr} (readOnly : readOnlyAddr a = true) (d : Byte) : decodeWr a d = .wrRo a d := by
  have range := readOnlyAddr_iff.mp readOnly
  unfold decodeWr
  rw [wordNumber_toNat, byteNumber4_toNat]
  split
  case h_2 | h_9 | h_10 | h_11 | h_12 | h_14 | h_16 => rfl
  all_goals grind

/-- A reserved command code is `CMD.RSVD` (R96). -/
theorem decodeCmd_of_reservedCode {d : Byte} (reserved : reservedCode d = true) : decodeCmd d = .cmdRsvd d := by
  have range := reservedCode_iff.mp reserved
  unfold decodeCmd
  split
  case h_8 => rfl
  all_goals omega

/-! What is decoded is well formed: a branch that gives a covering operation is open only to the set it covers. -/

theorem decodeRd_wellFormed (a : Addr) : (decodeRd a).wellFormed = true := by
  unfold decodeRd
  rw [wordNumber_toNat, byteNumber4_toNat]
  split
  case h_21 => exact reservedAddr_iff.mpr (by grind)
  all_goals rfl

theorem decodeCmd_wellFormed (d : Byte) : (decodeCmd d).wellFormed = true := by
  unfold decodeCmd
  split
  case h_8 => exact reservedCode_iff.mpr (by grind)
  all_goals rfl

theorem decodeWr_wellFormed (a : Addr) (d : Byte) : (decodeWr a d).wellFormed = true := by
  unfold decodeWr
  rw [wordNumber_toNat, byteNumber4_toNat]
  split
  case h_1 => exact decodeCmd_wellFormed d
  case h_2 | h_9 | h_10 | h_11 | h_12 | h_14 | h_16 => exact readOnlyAddr_iff.mpr (by grind)
  case h_13 | h_17 => exact reservedAddr_iff.mpr (by grind)
  all_goals rfl

/-! What is decoded encodes back, byte by byte of the host space. -/

theorem encode_decodeRd (a : Addr) : encode (decodeRd a) = .host (.ofFields false a 0) := by
  obtain ⟨w, k, rfl⟩ := addr_eq_append a
  rcases wordNumber_cases w with
    rfl | rfl | rfl | rfl | rfl | rfl | rfl | rfl | rfl | rfl | rfl | rfl | rfl | rfl | rfl | rfl
  all_goals rcases byteNumber_cases k with rfl | rfl | rfl | rfl <;> rfl

theorem encode_decodeCmd (d : Byte) : encode (decodeCmd d) = .host (.ofFields true 0x01 d) := by
  have whole : BitVec.ofNat 8 d.toNat = d := by simp
  unfold decodeCmd
  split
  case h_8 => rfl
  all_goals
    next code =>
    rw [code] at whole
    rw [← whole]
    rfl

theorem encode_decodeWr (a : Addr) (d : Byte) : encode (decodeWr a d) = .host (.ofFields true a d) := by
  obtain ⟨w, k, rfl⟩ := addr_eq_append a
  rcases wordNumber_cases w with
    rfl | rfl | rfl | rfl | rfl | rfl | rfl | rfl | rfl | rfl | rfl | rfl | rfl | rfl | rfl | rfl
  · -- `CMD` among read-only bytes
    rcases byteNumber_cases k with rfl | rfl | rfl | rfl
    · rfl
    · exact encode_decodeCmd d
    · rfl
    · rfl
  all_goals rcases byteNumber_cases k with rfl | rfl | rfl | rfl <;> rfl

/-- A host word decodes to a well-formed operation (R97). -/
theorem decodeHost_wellFormed (w : TxWord) : (decodeHost w).wellFormed = true := by
  unfold decodeHost
  split
  · exact decodeWr_wellFormed _ _
  · exact decodeRd_wellFormed _

/-- A host word is the encoding of what it decodes to, but for the data of a read (R93). -/
theorem encode_decodeHost (w : TxWord) : encode (decodeHost w) = .host w.canonical := by
  unfold decodeHost TxWord.canonical
  split
  case isTrue isWrite => rw [encode_decodeWr, ← isWrite, ofFields_fields]
  case isFalse => exact encode_decodeRd _

/-! Decode reads every selector back. -/

/-- A host word with the write bit clear is decoded by its address alone. -/
theorem decode_read (a : Addr) (d : Byte) : decode (.host (.ofFields false a d)) = .ok (decodeRd a) := by
  simp [decode, decodeHost_ofFields]

/-- A host word with the write bit set is decoded by its address and its data. -/
theorem decode_write (a : Addr) (d : Byte) : decode (.host (.ofFields true a d)) = .ok (decodeWr a d) := by
  simp [decode, decodeHost_ofFields]

@[simp] theorem wordNumber_append : ∀ (w : BitVec 4) (k : BitVec 2), (w ++ k : Addr).extractLsb' 2 4 = w := by decide

@[simp] theorem byteNumber4_append : ∀ (w : BitVec 4) (k : BitVec 2), byteNumber4 (w ++ k) = k := by decide

/-- A well-formed operation with selecting bits is read back from its encoding: by the set for the covering operations, by the word
number and the byte number for the multi-byte registers, and by the one address, code or engine code for the others. -/
theorem decode_encode {i : Instr} (wellFormed : i.wellFormed = true) (selected : i.format ≠ .edge) :
    decode (encode i) = .ok i := by
  cases i with
  | rdRsvd a => exact (decode_read a 0).trans (congrArg _ (decodeRd_of_reservedAddr wellFormed))
  | wrRo a d => exact (decode_write a d).trans (congrArg _ (decodeWr_of_readOnlyAddr wellFormed d))
  | wrRsvd a d => exact (decode_write a d).trans (congrArg _ (decodeWr_of_reservedAddr wellFormed d))
  | cmdRsvd code => exact (decode_write 0x01 code).trans (congrArg _ (decodeCmd_of_reservedCode wellFormed))
  | rdTbdiv k | rdTickcnt k => revert k; decide
  | rdClkrate k | rdTgtrate k | rdStephz k | rdFreq0 k | rdFreq1 k | rdPhinc0 k | rdPhinc1 k | rdPhacc0 k | rdPhacc1 k =>
    simp [encode, decode_read, decodeRd]
  | wrClkrate k d | wrTgtrate k d | wrFreq0 k d | wrFreq1 k d | wrPhinc0 k d | wrPhinc1 k d =>
    simp [encode, decode_write, decodeWr]
  | wrTblidx d => exact decode_write 0x30 d
  | tbCount | pwmStep => exact absurd rfl selected
  | _ => rfl

/-- A host word is its low byte and its seven bits above. -/
theorem setWidth_append_bytes (w : TxWord) :
    ((w.extractLsb' 8 7).setWidth 8 ++ w.extractLsb' 0 8).setWidth 15 = w := by
  apply BitVec.eq_of_getLsbD_eq
  intro i hi
  rw [BitVec.getLsbD_setWidth, BitVec.getLsbD_append]
  grind

/-- A selector is read back from its bytes. -/
theorem ofBytes_toBytes (w : OpWord) : OpWord.ofBytes w.toBytes = .ok w := by
  cases w with
  | host w => simp [OpWord.toBytes, OpWord.ofBytes, setWidth_append_bytes]
  | eng code => revert code; decide
  | edge => rfl

/-- Decoding the bytes of a selector is decoding the selector. -/
theorem decodeBytes_toBytes (w : OpWord) : decodeBytes w.toBytes = decode w := by
  simp [decodeBytes, ofBytes_toBytes]

/-- Settles O2: `decode_encode`, and the bytes of a selector carry it whole. -/
theorem decodeInvertsEncode : Obligations.DecodeInvertsEncode := by
  intro i wellFormed selected
  have inverse := decode_encode wellFormed selected
  exact ⟨inverse, (decodeBytes_toBytes _).trans inverse⟩

/-- Settles O3: what a word decodes to is well formed, encodes back, and completes as every operation does. -/
theorem everyHostWordHasAMeaning : Obligations.EveryHostWordHasAMeaning :=
  fun w => ⟨decodeHost_wellFormed w, encode_decodeHost w, exec_completes _⟩

/-- Only an operation of format EDGE has no selecting bits (R105). -/
theorem format_eq_edge_iff (i : Instr) : i.format = .edge ↔ encode i = .edge := by
  cases i <;> simp [Instr.format, encode]

/-- A selector with bits has bytes. -/
theorem toBytes_eq_nil_iff (w : OpWord) : w.toBytes = [] ↔ w = .edge := by
  cases w <;> simp [OpWord.toBytes]

/-- Settles O6: no encoding but the empty selector has no bytes. -/
theorem edgeOperationsHaveNoWord : Obligations.EdgeOperationsHaveNoWord :=
  ⟨fun i => (format_eq_edge_iff i).trans (toBytes_eq_nil_iff _).symm, rfl⟩

/-- Codes 6 and 7 of `ENG` select nothing (R98). -/
theorem decodeEng_unassigned {code : EngCode} (unassigned : 5 < code.toNat) :
    decodeEng code = .error (.engCodeUnassigned code) := by
  unfold decodeEng
  split
  case h_7 => rfl
  all_goals omega

/-- A dispatch without a pending tick does nothing (41_dds_engine.md R151). -/
theorem dispatchTick_of_calm {s : State} (calm : s.pend = false) : s.dispatchTick = s := by
  simp [State.dispatchTick, State.dispatches, calm]

/-- Settles O5: the table by evaluation, then an idle dispatch and the two codes without an entry. -/
theorem engineCodesSelectTheSteps : Obligations.EngineCodesSelectTheSteps :=
  ⟨rfl, rfl, rfl, rfl, rfl, rfl, fun _ calm => congrArg _ (dispatchTick_of_calm calm), fun _ => decodeEng_unassigned⟩

/-- A write to `CMD` is decoded by its code (R95). -/
theorem decodeHost_command (d : Byte) : decodeHost (.ofFields true 0x01 d) = decodeCmd d := by
  rw [decodeHost_ofFields]
  rfl

/-- Settles O14: a write to `CMD` is decoded by its code, and the reserved codes share one branch. -/
theorem commandCodes : Obligations.CommandCodes := by
  refine ⟨?_, ?_, ?_, ?_, ?_, ?_, ?_, fun d s reserved => ⟨?_, rfl⟩⟩
  case refine_8 => rw [decodeHost_command, decodeCmd_of_reservedCode (reservedCode_iff.mpr reserved)]
  all_goals exact decodeHost_command _

end Sys2Proof
end

section
/-!
PROOFS. The opcode table (30_encoding.md R104) against the decoder. The seven bits of a word above its data, the write bit and
the address, choose one row, or at `CMD` the thirteen command rows; there the data byte chooses one.
-/

namespace Sys2Proof

open Machine

/-- The bits of a host word above its data byte. -/
def TxWord.head (w : TxWord) : BitVec 7 := w.extractLsb' 8 7

/-- These bits are the write bit and the address (R93). -/
theorem head_eq (w : TxWord) : w.head = BitVec.ofBool w.isWrite ++ w.addr := by
  apply BitVec.eq_of_getLsbD_eq
  intro i hi
  rw [BitVec.getLsbD_append]
  grind [TxWord.head, TxWord.isWrite, TxWord.addr]

/-- A host word is its head and its data. -/
theorem txWord_ext_iff {v w : TxWord} : v = w ↔ v.head = w.head ∧ v.data = w.data := by
  refine ⟨by rintro rfl; exact ⟨rfl, rfl⟩, fun ⟨head, data⟩ => ?_⟩
  rw [← setWidth_append_bytes v, ← setWidth_append_bytes w]
  unfold TxWord.head at head
  unfold TxWord.data at data
  rw [head, data]

/-- `W & mask = match` on the head. -/
def OpcodeRow.selectsHead (r : OpcodeRow) (h : BitVec 7) : Bool := h &&& r.mask.head == r.pattern.head

/-- `W & mask = match` on the data byte. -/
def OpcodeRow.selectsData (r : OpcodeRow) (d : Byte) : Bool := d &&& r.mask.data == r.pattern.data

/-- A row selects a word by its head and by its data. -/
theorem selectedBy_eq (r : OpcodeRow) (w : TxWord) :
    r.selectedBy w = (r.selectsData w.data && r.selectsHead w.head) := by
  have head : (w &&& r.mask).head = w.head &&& r.mask.head := BitVec.extractLsb'_and
  have data : (w &&& r.mask).data = w.data &&& r.mask.data := BitVec.extractLsb'_and
  rw [Bool.eq_iff_iff]
  simp [OpcodeRow.selectedBy, OpcodeRow.selectsHead, OpcodeRow.selectsData, txWord_ext_iff, head, data, and_comm]

/-- The rows of a word are found by its head first, and among those by its data. -/
theorem filter_selectedBy (w : TxWord) (rows : List OpcodeRow) :
    rows.filter (·.selectedBy w) = (rows.filter (·.selectsHead w.head)).filter (·.selectsData w.data) := by
  simp only [List.filter_filter, selectedBy_eq]

/-- The one row of head `h` is that of mnemonic `m`, and it leaves the data free. -/
def OneRow (h : BitVec 7) (m : String) : Prop :=
  ∃ r, hostRows.filter (·.selectsHead h) = [r] ∧ r.mnemonic = m ∧ r.mask.data = 0 ∧ r.pattern.data = 0

/-- Then it is the one row of each word of that head. -/
theorem mnemonics_of_oneRow {w : TxWord} {m : String} (one : OneRow w.head m) :
    (hostRows.filter (·.selectedBy w)).map (·.mnemonic) = [m] := by
  obtain ⟨r, found, rfl, mask, pattern⟩ := one
  rw [filter_selectedBy, found]
  simp [OpcodeRow.selectsData, mask, pattern]

/-- Each address has one row of format RD. -/
theorem oneRow_read (a : Addr) : OneRow (BitVec.ofBool false ++ a) (decodeRd a).mnemonic := by
  obtain ⟨w, k, rfl⟩ := addr_eq_append a
  rcases wordNumber_cases w with
    rfl | rfl | rfl | rfl | rfl | rfl | rfl | rfl | rfl | rfl | rfl | rfl | rfl | rfl | rfl | rfl
  all_goals rcases byteNumber_cases k with rfl | rfl | rfl | rfl <;> exact ⟨_, rfl, rfl, rfl, rfl⟩

/-- Each address but that of `CMD` has one row of format WR. -/
theorem oneRow_write {a : Addr} (other : a ≠ 0x01) (d : Byte) :
    OneRow (BitVec.ofBool true ++ a) (decodeWr a d).mnemonic := by
  obtain ⟨w, k, rfl⟩ := addr_eq_append a
  rcases wordNumber_cases w with
    rfl | rfl | rfl | rfl | rfl | rfl | rfl | rfl | rfl | rfl | rfl | rfl | rfl | rfl | rfl | rfl
  · -- the word of `CMD`
    rcases byteNumber_cases k with rfl | rfl | rfl | rfl
    case inr.inl => exact absurd rfl other
    all_goals exact ⟨_, rfl, rfl, rfl, rfl⟩
  all_goals rcases byteNumber_cases k with rfl | rfl | rfl | rfl <;> exact ⟨_, rfl, rfl, rfl, rfl⟩

/-- The rows at `CMD` are those of format CMD. -/
theorem rows_of_command : hostRows.filter (·.selectsHead (BitVec.ofBool true ++ (0x01 : Addr))) = commandRows := rfl

/-- The command rows share the 256 codes out among them, each to the operation it is decoded to (R95, R96). -/
theorem commandRows_of_code :
    ∀ d : Byte, (commandRows.filter (·.selectsData d)).map (·.mnemonic) = [(decodeCmd d).mnemonic] := by decide

/-- Settles O4: by the write bit and the address, and at `CMD` by the code. -/
theorem opcodeTableSelectsTheDecodedRow : Obligations.OpcodeTableSelectsTheDecodedRow := by
  intro w
  unfold decodeHost
  cases isWrite : w.isWrite with
  | false => exact mnemonics_of_oneRow (by simpa [head_eq, isWrite] using oneRow_read w.addr)
  | true =>
    by_cases command : w.addr = 0x01
    · rw [filter_selectedBy, head_eq, isWrite, command, rows_of_command]
      exact commandRows_of_code w.data
    · exact mnemonics_of_oneRow (by simpa [head_eq, isWrite] using oneRow_write command w.data)

end Sys2Proof
end

section
/-!
PROOFS. The step as a whole: the operations it runs in each case of the host port (R91, R92), when it stops, and the outputs it
leaves (R106).
-/

namespace Sys2Proof.Machine

variable {s t : State}

/-- A cycle with a performed write is the free-running edge and then the operation (44_host_ops.md R230, 60_exceptions.md R306). -/
theorem step_of_write (performed : performs s s.presented = true) (isWrite : s.presented.hWrite = true) :
    step s = andThen (everyEdge s.openCycle) (exec (decodeHost s.presented.word)) := by
  obtain ⟨-, running, -, -⟩ := performs_iff.mp performed
  simp [step, clockCycle, hostOp, running, performed, isWrite]

/-- The free-running edge by the operation that `ENG` selects; the latch sees the registers of before the edge. -/
theorem everyEdge_of_decodeEng {e : Instr} (selected : decodeEng s.eng = .ok e) :
    everyEdge s = andThen (exec .pwmStep s) fun s1 =>
      andThen (exec e s1) fun s2 =>
      andThen (exec .tbCount s2) fun s3 =>
      .next { s3 with pend := s3.pend || (s.overflows && s.ie) } := by
  obtain ⟨u, run⟩ := exec_completes e s.carrierStep
  have engine : engineOp s.carrierStep = .next u := by simp [engineOp, selected, run]
  obtain ⟨-, -, -, -, ie, -⟩ := engineOp_keeps engine
  rw [everyEdge_of_engineOp engine]
  simp [run, State.latchTick, ie]

/-- Settles O21: one equation for the step in each case of the port, and the edge by the code in `ENG`. -/
theorem stepRunsTheSelectedOperations : Obligations.StepRunsTheSelectedOperations := by
  intro s i e running selected
  refine ⟨?read, ?write, ?held, everyEdge_of_decodeEng (s := s.openCycle) selected⟩
  case read =>
    rintro valid isRead idle calm rfl
    rw [step_of_read running isRead, if_pos (performs_iff.mpr ⟨valid, running, idle, calm⟩), decodeHost_word,
      if_neg (by simp [isRead]), exec_decodeRd, andThen_next]
    rfl
  case write =>
    rintro valid isWrite idle calm rfl
    exact step_of_write (performs_iff.mpr ⟨valid, running, idle, calm⟩) isWrite
  case held =>
    rintro (absent | held)
    · exact step_of_not_performed running (by simp [performs, absent])
    · exact step_of_held running held

/-- A cycle with reset shows the outputs of the cycle and resets the registers (70_reset_and_hazards.md R350). -/
theorem step_of_reset (reset : s.presented.rst = true) : step s = .next s.openCycle.resetRegisters := by
  simp [step, clockCycle, reset]

/-- A step without a stop: with reset, or with a code the table of R98 has. -/
theorem step_completes (h : s.presented.rst = true ∨ s.eng.toNat ≤ 5) : ∃ t, step s = .next t := by
  cases reset : s.presented.rst with
  | true => exact ⟨_, step_of_reset reset⟩
  | false =>
    have code : s.eng.toNat ≤ 5 := h.resolve_left (by simp [reset])
    cases isWrite : s.presented.hWrite with
    | false =>
      rw [step_of_read reset isWrite]
      exact everyEdge_completes code
    | true =>
      obtain ⟨u, edge⟩ := everyEdge_completes (s := s.openCycle) code
      cases performed : performs s s.presented with
      | false => exact ⟨u, (step_of_not_performed reset performed).trans edge⟩
      | true =>
        rw [step_of_write performed isWrite, edge]
        exact exec_completes _ u

/-- A step without reset stops at the codes 6 and 7 (93_implementation_defined.md U18). -/
theorem step_unassigned (running : s.presented.rst = false) (code : 5 < s.eng.toNat) :
    step s = .fault (.engUnassigned s.eng) := by
  have busy : s.eng ≠ Eng.idle := by
    intro idle
    simp [idle] at code
  rw [step_of_held running (.inl busy)]
  simp [everyEdge, engineOp_unassigned (s := s.openCycle.carrierStep) (by simpa using code), andThen]

/-- Settles O23: a step completes, or it is one that stops by name. -/
theorem stepStopsOnlyAtUnassignedCodes : Obligations.StepStopsOnlyAtUnassignedCodes := by
  intro s
  by_cases completes : s.presented.rst = true ∨ s.eng.toNat ≤ 5
  · obtain ⟨t, next⟩ := step_completes completes
    rw [next]
    refine ⟨fun f => ⟨nofun, fun ⟨running, code, _⟩ => ?_⟩, nofun⟩
    rcases completes with reset | assigned
    · simp [running] at reset
    · omega
  · obtain ⟨running, code⟩ : s.presented.rst = false ∧ 5 < s.eng.toNat := by simpa using completes
    rw [step_unassigned running code]
    simp [running, code, eq_comm]

/-- The engine does not touch the outputs. -/
theorem engineOp_out (h : engineOp s = .next t) : t.out = s.out := by
  rcases engineOp_cases h with ⟨-, rfl⟩ | ⟨-, rfl⟩ | ⟨-, rfl⟩ | ⟨-, rfl⟩ | ⟨-, rfl⟩ | ⟨-, rfl⟩ <;> simp

/-- Neither does the rest of the free-running edge. -/
theorem everyEdge_out (h : everyEdge s = .next t) : t.out = s.out := by
  obtain ⟨e, engine, rfl⟩ := everyEdge_eq_next h
  simpa using engineOp_out engine

/-- Neither does a write or command. -/
theorem WriteEffect.out_eq {i : Instr} (h : WriteEffect i s t) : t.out = s.out := by
  cases h <;> rfl

/-- The outputs that a step leaves (R106): the byte of a performed read goes through the edge, and nothing else changes what the
cycle showed when it opened. -/
theorem step_out (h : step s = .next t) :
    t.out = ⟨hReady s s.presented,
      if performs s s.presented && !s.presented.hWrite then hostRead s s.presented.hAddr else 0x00, s.pwmOut⟩ := by
  cases reset : s.presented.rst with
  | true =>
    rw [step_of_reset reset] at h
    cases h
    simp [State.openCycle, performs, hReady, reset]
  | false =>
    cases isWrite : s.presented.hWrite with
    | false =>
      rw [step_of_read reset isWrite] at h
      simp [everyEdge_out h, State.openCycle]
    | true =>
      have opened : t.out = s.openCycle.out := by
        cases performed : performs s s.presented with
        | false => exact everyEdge_out ((step_of_not_performed reset performed).symm.trans h)
        | true =>
          rw [step_of_write performed isWrite, decodeHost_word, if_pos isWrite] at h
          obtain ⟨m, edge, effect⟩ := andThen_eq_next h
          exact (writeEffect_of_exec (decodeWr_format _ _) effect).out_eq.trans (everyEdge_out edge)
      simp [opened, State.openCycle]

/-- Bit 0 of `pwm_out` is the comparator of channel 0 (43_pwm.md R213). -/
theorem pwmOut_channel0 (s : State) : s.pwmOut.getLsbD 0 = true ↔ s.pwmcnt.toNat < s.dutyact0.toNat := by
  rw [State.pwmOut, BitVec.getLsbD_append]
  simp [pwmHigh]

/-- Bit 1 of `pwm_out` is the comparator of channel 1. -/
theorem pwmOut_channel1 (s : State) : s.pwmOut.getLsbD 1 = true ↔ s.pwmcnt.toNat < s.dutyact1.toNat := by
  rw [State.pwmOut, BitVec.getLsbD_append]
  simp [pwmHigh]

/-- Settles O25: the conditions of `step_out` as the rule words them. -/
theorem outputsOfACycle : Obligations.OutputsOfACycle := by
  intro s t h
  rw [step_out h]
  refine ⟨hReady_iff, ?_, pwmOut_channel0 s, pwmOut_channel1 s⟩
  simp only [performs, Bool.and_eq_true, Bool.not_eq_true']
  grind

end Sys2Proof.Machine
end

section
/-!
PROOFS. The commands of the timebase and the two operations of every edge, each with its whole effect (40_timebase.md R121, R125
to R127, 43_pwm.md R211): one equation for each branch.
-/

namespace Sys2Proof.Machine

variable {s : State}

/-- `CONFIGURE` while armed is refused. -/
theorem exec_cmdConfigure_of_armed (armed : s.ie = true) :
    exec .cmdConfigure s = .next (s.raiseRefused .locked) := by
  simp [lockedRefusal_eq, armed, unlessRefused]

/-- `CONFIGURE`, disarmed, with a zero rate fails. -/
theorem exec_cmdConfigure_of_zero_rate (disarmed : s.ie = false) (zero : s.clkrate = 0 ∨ s.tgtrate = 0) :
    exec .cmdConfigure s = .next { s with cfgErr := true, cfgValid := false } := by
  rw [exec_cmdConfigure, lockedRefusal_eq, if_neg (by simp [disarmed]), if_pos zero]
  rfl

/-- `CONFIGURE`, disarmed, with both rates non-zero succeeds. -/
theorem exec_cmdConfigure_of_rates (disarmed : s.ie = false) (clk : s.clkrate ≠ 0) (tgt : s.tgtrate ≠ 0) :
    exec .cmdConfigure s = .next s.configured := by
  rw [exec_cmdConfigure, lockedRefusal_eq, if_neg (by simp [disarmed]), if_neg (not_or.mpr ⟨clk, tgt⟩)]
  rfl

/-- The reduction modulo 2^32 of R129 is the width of `STEPHZ`: it shows only for a target rate of 1. -/
theorem stepsPerHz_eq_ofNat_mod (tgt : Word) : stepsPerHz tgt = BitVec.ofNat 32 (2 ^ 32 / tgt.toNat % 2 ^ 32) :=
  BitVec.eq_of_toNat_eq (by simp [stepsPerHz])

/-- Settles O15, branch by branch. -/
theorem configureEffect : Obligations.ConfigureEffect := by
  refine ⟨decodeHost_command _, fun s => ⟨exec_cmdConfigure_of_armed, exec_cmdConfigure_of_zero_rate, ?_⟩⟩
  intro disarmed clk tgt
  rw [exec_cmdConfigure_of_rates disarmed clk tgt, ← stepsPerHz_eq_ofNat_mod]
  rfl

/-- Settles O16: `ENABLE` by its refusal, and `DISABLE` as it is. -/
theorem enableAndDisableEffect : Obligations.EnableAndDisableEffect := by
  intro s
  refine ⟨fun invalid => ?_, fun valid => ?_, rfl⟩
  · rw [exec_cmdEnable, unconfiguredRefusal_eq, if_neg (by simp [invalid])]
    rfl
  · rw [exec_cmdEnable, unconfiguredRefusal_eq, if_pos valid]
    rfl

/-- The count on a wrap of the prescaler. -/
theorem timebaseCount_of_wrap (wrap : s.pre.toNat + 1 = s.tbdiv.toNat) :
    s.timebaseCount = { s with pre := 0, tbcnt := s.tbcnt + 1 } :=
  if_pos (decide_eq_true wrap)

/-- The count between two wraps of the prescaler. -/
theorem timebaseCount_of_no_wrap (noWrap : s.pre.toNat + 1 ≠ s.tbdiv.toNat) :
    s.timebaseCount = { s with pre := s.pre + 1 } :=
  if_neg (by simpa [State.prescalerWraps] using noWrap)

/-- Below a divisor of at most 1024 the prescaler counts within its ten bits. -/
theorem pre_succ_toNat (below : s.pre.toNat + 1 < s.tbdiv.toNat) (bound : s.tbdiv.toNat ≤ maxDivisor) :
    (s.pre + 1).toNat = s.pre.toNat + 1 :=
  BitVec.toNat_add_of_lt (by simp only [maxDivisor] at bound; simp; omega)

/-- An eight-bit counter counts modulo 256. -/
theorem byte_succ_eq_ofNat (c : Byte) : c + 1 = BitVec.ofNat 8 ((c.toNat + 1) % 256) :=
  BitVec.eq_of_toNat_eq (by simp)

/-- Settles O20, each operation by its two branches. -/
theorem everyEdgeOperationsEffect : Obligations.EveryEdgeOperationsEffect := by
  intro s
  refine ⟨fun wrap => ?_, fun below bound => ?_, fun wrap => ?_, fun noWrap => ?_⟩
  · rw [exec_tbCount, timebaseCount_of_wrap wrap, byte_succ_eq_ofNat]
  · refine ⟨_, exec_tbCount s, ?_⟩
    rw [timebaseCount_of_no_wrap (by omega)]
    exact ⟨rfl, pre_succ_toNat below bound⟩
  · rw [exec_pwmStep, State.carrierStep, if_pos wrap, wrap]
    rfl
  · rw [exec_pwmStep, State.carrierStep, if_neg noWrap, BitVec.add_def]
    rfl

end Sys2Proof.Machine
end

section
/-!
PROOFS. The timebase and the pending latch on every edge (40_timebase.md R121, R122): the free-running edge moves them, and of the
host's operations only a successful `CONFIGURE` moves the count and only `DISABLE` the latch.
-/

namespace Sys2Proof.Machine

variable {s t : State} {i : Instr}

/-- A write is decoded without loss: the operation tells address and data (30_encoding.md R93). -/
theorem decodeWr_inj {a b : Addr} {d e : Byte} (h : decodeWr a d = decodeWr b e) : a = b ∧ d = e := by
  have words : OpWord.host (.ofFields true a d) = .host (.ofFields true b e) := by
    rw [← encode_decodeWr, ← encode_decodeWr, h]
  have word := OpWord.host.inj words
  exact ⟨by simpa using congrArg TxWord.addr word, by simpa using congrArg TxWord.data word⟩

/-- What a step without reset does, with the operation of a performed write or command: the form of `step_eq_edge_then_write` that
tells which operation has the effect. -/
theorem step_eq_edge_then_exec (running : s.presented.rst = false) (h : step s = .next t) :
    ∃ b m, everyEdge (s.openCycle.deliver b) = .next m
      ∧ (t = m ∨ (performs s s.presented = true ∧ s.presented.hWrite = true
          ∧ exec (decodeWr s.presented.hAddr s.presented.hWdata) m = .next t)) := by
  cases isWrite : s.presented.hWrite with
  | false =>
    rw [step_of_read running isWrite] at h
    exact ⟨_, t, h, .inl rfl⟩
  | true =>
    cases performed : performs s s.presented with
    | false => exact ⟨0x00, t, (step_of_not_performed running performed).symm.trans h, .inl rfl⟩
    | true =>
      rw [step_of_write performed isWrite, decodeHost_word, if_pos isWrite] at h
      obtain ⟨m, edge, write⟩ := andThen_eq_next h
      exact ⟨0x00, m, edge, .inr ⟨rfl, rfl, write⟩⟩

/-- A performed write is the one whose operation is decoded. -/
theorem performsWrite_of_decodeWr {a : Addr} {d : Byte} (performed : performs s s.presented = true)
    (isWrite : s.presented.hWrite = true)
    (selected : decodeWr s.presented.hAddr s.presented.hWdata = decodeWr a d) : s.performsWrite a d := by
  obtain ⟨valid, -⟩ := performs_iff.mp performed
  obtain ⟨addr_eq, data_eq⟩ := decodeWr_inj selected
  exact ⟨performed, valid, isWrite, addr_eq, data_eq⟩

/-- A step with a performed command is the free-running edge and then the command (44_host_ops.md R230, 60_exceptions.md R306). -/
theorem step_of_command {d : Byte} (h : s.performsWrite 0x01 d) :
    step s = andThen (everyEdge s.openCycle) (exec (decodeCmd d)) := by
  obtain ⟨performed, -, isWrite, addr_eq, data_eq⟩ := h
  rw [step_of_write performed isWrite, decodeHost_word, if_pos isWrite, addr_eq, data_eq]
  rfl

/-- Of the writes and commands only `CONFIGURE` can move the timebase, and only `DISABLE` the pending latch (R125, R127). -/
theorem exec_keeps_tick (format : i.format = .wr ∨ i.format = .cmd) (h : exec i s = .next t) :
    (i ≠ .cmdConfigure → t.tbdiv = s.tbdiv ∧ t.pre = s.pre ∧ t.tbcnt = s.tbcnt)
      ∧ (i ≠ .cmdDisable → t.pend = s.pend) := by
  cases i with
  | cmdConfigure =>
    refine ⟨fun other => absurd rfl other, fun _ => ?_⟩
    rcases unlessRefused_cases h with ⟨_, -, rfl⟩ | ⟨-, rfl⟩
    · rfl
    · split <;> rfl
  | cmdDisable =>
    cases h
    exact ⟨fun _ => ⟨rfl, rfl, rfl⟩, fun other => absurd rfl other⟩
  | wrPhinc0 | wrPhinc1 | cmdEnable | cmdSetfreq0 | cmdSetfreq1 =>
    rcases unlessRefused_cases h with ⟨_, -, rfl⟩ | ⟨-, rfl⟩ <;> exact ⟨fun _ => ⟨rfl, rfl, rfl⟩, fun _ => rfl⟩
  | cmdNop | cmdClrtick | cmdRsvd | wrClkrate | wrTgtrate | wrFreq0 | wrFreq1 | wrTblidx | wrRo | wrRsvd =>
    cases h
    exact ⟨fun _ => ⟨rfl, rfl, rfl⟩, fun _ => rfl⟩
  | _ => simp [Instr.format] at format

/-- A `CONFIGURE` that does not succeed leaves the timebase as it is (R125). -/
theorem exec_cmdConfigure_keeps (fails : ¬ (s.ie = false ∧ s.clkrate ≠ 0 ∧ s.tgtrate ≠ 0))
    (h : exec .cmdConfigure s = .next t) : t.tbdiv = s.tbdiv ∧ t.pre = s.pre ∧ t.tbcnt = s.tbcnt := by
  cases armed : s.ie with
  | true =>
    cases (exec_cmdConfigure_of_armed armed).symm.trans h
    exact ⟨rfl, rfl, rfl⟩
  | false =>
    have zero : s.clkrate = 0 ∨ s.tgtrate = 0 := by grind
    cases (exec_cmdConfigure_of_zero_rate armed zero).symm.trans h
    exact ⟨rfl, rfl, rfl⟩

/-- On the free-running edge of a cycle the timebase counts from its values before the cycle (R121). -/
theorem cycle_timebase {b : Byte} (h : everyEdge (s.openCycle.deliver b) = .next t) :
    t.tbdiv = s.tbdiv ∧ t.pre = s.timebaseCount.pre ∧ t.tbcnt = s.timebaseCount.tbcnt := by
  obtain ⟨tbdiv, pre, tbcnt, -⟩ := everyEdge_timebase h
  have same : (s.openCycle.deliver b).prescalerWraps = s.prescalerWraps := rfl
  simp [same, tbdiv, pre, tbcnt]

/-- Short of a reset and of a successful `CONFIGURE`, a step moves the timebase as `TB.COUNT` does (R121). -/
theorem step_timebase (running : s.presented.rst = false) (kept : ¬ s.reconfigures) (h : step s = .next t) :
    t.tbdiv = s.tbdiv ∧ t.pre = s.timebaseCount.pre ∧ t.tbcnt = s.timebaseCount.tbcnt := by
  obtain ⟨b, m, edge, rest⟩ := step_eq_edge_then_exec running h
  have counted := cycle_timebase edge
  rcases rest with rfl | ⟨performed, isWrite, write⟩
  · exact counted
  have write_keeps : t.tbdiv = m.tbdiv ∧ t.pre = m.pre ∧ t.tbcnt = m.tbcnt := by
    by_cases configure : decodeWr s.presented.hAddr s.presented.hWdata = .cmdConfigure
    · obtain ⟨-, -, -, -, ie, -⟩ := everyEdge_keeps edge
      obtain ⟨-, -, clkrate, tgtrate, -⟩ := everyEdge_keeps_staged edge
      rw [configure] at write
      refine exec_cmdConfigure_keeps (fun success => kept ?_) write
      rw [ie, clkrate, tgtrate] at success
      exact ⟨performsWrite_of_decodeWr performed isWrite configure, success⟩
    · obtain ⟨keeps, -⟩ := exec_keeps_tick (decodeWr_format _ _) write
      exact keeps configure
  obtain ⟨tbdiv, pre, tbcnt⟩ := write_keeps
  rwa [tbdiv, pre, tbcnt]

/-- A step with a successful `CONFIGURE` restarts the count, whatever the edge did to it (R121, R306). -/
theorem step_of_reconfigures (success : s.reconfigures) (h : step s = .next t) :
    ∃ m, everyEdge s.openCycle = .next m ∧ t = m.configured := by
  obtain ⟨command, disarmed, clk, tgt⟩ := success
  rw [step_of_command command] at h
  obtain ⟨m, edge, configure⟩ := andThen_eq_next h
  obtain ⟨-, -, -, -, ie, -⟩ := everyEdge_keeps edge
  obtain ⟨-, -, clkrate, tgtrate, -⟩ := everyEdge_keeps_staged edge
  have done := exec_cmdConfigure_of_rates (s := m) (ie.trans disarmed) (clkrate ▸ clk) (tgtrate ▸ tgt)
  cases done.symm.trans configure
  exact ⟨m, edge, rfl⟩

/-- The pending latch on the free-running edge (R122). -/
theorem everyEdge_pend_iff (h : everyEdge s = .next t) :
    t.pend = true ↔ (s.pend = true ∧ ¬ (s.eng = Eng.idle ∧ s.pend = true)) ∨ (s.overflows = true ∧ s.ie = true) := by
  rcases everyEdge_phase h with ⟨idle, calm, -, pend'⟩ | ⟨idle, pend, -, pend'⟩ | ⟨busy, -, pend'⟩
  · simp [pend', calm]
  · simp [pend', idle, pend]
  · simp only [pend', busy, Bool.or_eq_true, Bool.and_eq_true, false_and, not_false_eq_true, and_true]

/-- A disarmed idle core with no tick pending stays so on the free-running edge (R131). -/
theorem everyEdge_at_rest (disarmed : s.ie = false) (idle : s.eng = Eng.idle) (calm : s.pend = false)
    (h : everyEdge s = .next t) : t.eng = Eng.idle ∧ t.pend = false := by
  refine ⟨everyEdge_eng_of_hostMayAct h idle calm, ?_⟩
  rw [← Bool.not_eq_true, everyEdge_pend_iff h]
  simp [disarmed, calm]

/-- No write or command moves the engine, takes an input, or raises a tick. -/
theorem WriteEffect.keeps_rest (effect : WriteEffect i s t) :
    t.eng = s.eng ∧ t.input = s.input ∧ (s.pend = false → t.pend = false) := by
  cases effect with
  | disabled => exact ⟨rfl, rfl, fun _ => rfl⟩
  | _ => exact ⟨rfl, rfl, id⟩

/-- Settles O27: the overflow as `overflows_iff`, and the count by whether a `CONFIGURE` succeeds on the edge. -/
theorem timebaseOnEveryEdge : Obligations.TimebaseOnEveryEdge := by
  intro s t running below bound h
  have last_iff : s.pre.toNat = s.tbdiv.toNat - 1 ↔ s.pre.toNat + 1 = s.tbdiv.toNat := by omega
  rw [ne_eq, last_iff]
  refine ⟨overflows_iff, fun success => ?_, fun kept wrap => ?_, fun kept noWrap => ?_⟩
  · obtain ⟨m, edge, rfl⟩ := step_of_reconfigures success h
    obtain ⟨⟨performed, -⟩, disarmed, -⟩ := success
    obtain ⟨-, -, idle, calm⟩ := performs_iff.mp performed
    obtain ⟨-, pend⟩ := everyEdge_at_rest (s := s.openCycle) disarmed idle calm edge
    exact ⟨rfl, rfl, pend⟩
  · obtain ⟨-, pre, tbcnt⟩ := step_timebase running kept h
    rw [pre, tbcnt, timebaseCount_of_wrap wrap]
    exact ⟨rfl, BitVec.toNat_add _ _⟩
  · obtain ⟨-, pre, tbcnt⟩ := step_timebase running kept h
    rw [pre, tbcnt, timebaseCount_of_no_wrap noWrap]
    exact ⟨pre_succ_toNat (by omega) bound, rfl⟩

/-- Settles O28: the latch of the edge, which of the commands only `DISABLE` overrides. -/
theorem pendingLatchOnEveryEdge : Obligations.PendingLatchOnEveryEdge := by
  intro s t running h
  refine ⟨fun disable => ?_, fun other => ?_⟩
  · rw [step_of_command disable] at h
    obtain ⟨m, -, done⟩ := andThen_eq_next h
    cases done
    rfl
  · rw [← and_assoc, ← overflows_iff]
    obtain ⟨b, m, edge, rest⟩ := step_eq_edge_then_exec running h
    have latched := everyEdge_pend_iff (s := s.openCycle.deliver b) edge
    rcases rest with rfl | ⟨performed, isWrite, write⟩
    · exact latched
    · have notDisable : decodeWr s.presented.hAddr s.presented.hWdata ≠ .cmdDisable :=
        fun disable => other (performsWrite_of_decodeWr performed isWrite disable)
      obtain ⟨-, keeps⟩ := exec_keeps_tick (decodeWr_format _ _) write
      rwa [keeps notDisable]

/-- Settles O41: the edge leaves a disarmed core at rest, no write or command starts it, and the engine's registers are written
only in a handler run. -/
theorem disarmedCoreStandsStill : Obligations.DisarmedCoreStandsStill := by
  intro s t running disarmed idle calm h
  obtain ⟨eng_rest, pend_rest⟩ : t.eng = Eng.idle ∧ t.pend = false := by
    obtain ⟨b, m, edge, write⟩ := step_eq_edge_then_write running h
    obtain ⟨eng, pend⟩ := everyEdge_at_rest (s := s.openCycle.deliver b) disarmed idle calm edge
    rcases write with rfl | ⟨-, -, effect⟩
    · exact ⟨eng, pend⟩
    · obtain ⟨eng', -, pend'⟩ := effect.keeps_rest
      exact ⟨eng'.trans eng, pend' pend⟩
  have idle_ne {c : EngCode} (step_code : Eng.idle ≠ c) : s.eng ≠ c := idle ▸ step_code
  obtain ⟨ch0, ch1, t0, t1, cnt⟩ := engineOwnsPhaseAndDuty s t running h
  obtain ⟨phacc0, duty0⟩ := ch0 (idle_ne (by decide))
  obtain ⟨phacc1, duty1⟩ := ch1 (idle_ne (by decide))
  exact ⟨eng_rest, pend_rest, phacc0, phacc1, duty0, duty1, t0 (idle_ne (by decide)), t1 (idle_ne (by decide)),
    cnt (idle_ne (by decide))⟩

end Sys2Proof.Machine
end

section
/-!
PROOFS. The tick period (40_timebase.md R123): the position of a cycle in its period advances by one on every edge, so after `n`
edges it is `n` further, modulo the period, and the count and the overflow are read off it.
-/

namespace Sys2Proof.Machine

variable {s t : State} {n : Nat}

/-- The divisor alone gives the period. -/
theorem tickPeriod_congr (same : t.tbdiv = s.tbdiv) : t.tickPeriod = s.tickPeriod := by
  simp only [State.tickPeriod, same]

/-- Settles O47: the step counts as `TB.COUNT` does, and that moves the position on by one. -/
theorem positionAdvances : Obligations.PositionAdvances := by
  intro s t sound running kept h
  obtain ⟨tbdiv, pre, tbcnt⟩ := step_timebase running kept h
  refine ⟨tbdiv, ?_⟩
  rw [← timebaseCount_position sound]
  simp only [State.position, tbdiv, pre, tbcnt, timebaseCount_tbdiv]

/-- A sound state stands within its period (10_state.md R49 (f)). -/
theorem position_lt_tickPeriod (sound : s.Sound) : s.position < s.tickPeriod := by
  obtain ⟨-, -, -, -, -, -, ⟨-, below⟩, -, -⟩ := sound
  calc s.position < s.tbcnt.toNat * s.tbdiv.toNat + s.tbdiv.toNat := Nat.add_lt_add_left below _
    _ = (s.tbcnt.toNat + 1) * s.tbdiv.toNat := (Nat.succ_mul _ _).symm
    _ ≤ s.tickPeriod := Nat.mul_le_mul_right _ s.tbcnt.isLt

/-- The count is the position in whole divisors (70_reset_and_hazards.md R362). -/
theorem tbcnt_eq_position_div (sound : s.Sound) : s.tbcnt.toNat = s.position / s.tbdiv.toNat := by
  obtain ⟨-, -, -, -, -, -, ⟨-, below⟩, -, -⟩ := sound
  rw [State.position, Nat.add_comm, Nat.add_mul_div_right _ _ (by omega), Nat.div_eq_of_lt below, Nat.zero_add]

/-- The overflow is at the last position of the period, and only there (R121, R123). -/
theorem overflows_iff_position (sound : s.Sound) : s.overflows = true ↔ s.position + 1 = s.tickPeriod := by
  refine ⟨position_succ_of_overflows, fun last => ?_⟩
  have count := tbcnt_eq_position_div sound
  obtain ⟨-, -, -, -, -, -, ⟨-, below⟩, -, -⟩ := sound
  have count_last : s.tbcnt.toNat = 255 := by
    have place : s.position = s.tbdiv.toNat - 1 + 255 * s.tbdiv.toNat := by
      simp only [State.tickPeriod, tbModulus] at last
      omega
    rw [count, place, Nat.add_mul_div_right _ _ (by omega), Nat.div_eq_of_lt (by omega)]
  simp only [State.position, State.tickPeriod, tbModulus, count_last] at last
  exact overflows_iff.mpr ⟨by omega, BitVec.eq_of_toNat_eq count_last⟩

/-- A step without reset takes one input (30_encoding.md R92). -/
theorem step_input (running : s.presented.rst = false) (h : step s = .next t) : t.input = s.input.tail := by
  obtain ⟨b, m, edge, write⟩ := step_eq_edge_then_write running h
  obtain ⟨-, -, -, input⟩ := everyEdge_timebase edge
  rcases write with rfl | ⟨-, -, effect⟩
  · exact input
  · obtain ⟨-, input', -⟩ := effect.keeps_rest
    exact input'.trans input

/-- A run without reset and `CONFIGURE` begins with such a cycle, and goes on so. -/
theorem noConfigureFor_succ (h : s.noConfigureFor (n + 1)) :
    (s.presented.rst = false ∧ ¬ s.presented.presentsWrite 0x01 0x01)
      ∧ ∀ p ∈ s.input.tail.take n, p.rst = false ∧ ¬ p.presentsWrite 0x01 0x01 := by
  unfold State.presented
  cases inputs : s.input with
  | nil => exact ⟨by decide, by simp⟩
  | cons p rest => simpa [State.noConfigureFor, inputs] using h

/-- With no reset and no `CONFIGURE` presented, the position after `n` steps is `n` further, modulo the period. -/
theorem position_after_runSteps (sound : s.Sound) (quiet : s.noConfigureFor n) :
    ∃ t, runSteps n s = .next t ∧ t.Sound ∧ t.tbdiv = s.tbdiv ∧ t.position = (s.position + n) % s.tickPeriod := by
  induction n generalizing s with
  | zero => exact ⟨s, rfl, sound, rfl, (Nat.mod_eq_of_lt (position_lt_tickPeriod sound)).symm⟩
  | succ n ih =>
    obtain ⟨⟨running, noConfigure⟩, later⟩ := noConfigureFor_succ quiet
    obtain ⟨u, first⟩ := step_completes (.inr (eng_le_of_sound sound))
    have kept : ¬ s.reconfigures := fun ⟨⟨_, presents⟩, _⟩ => noConfigure presents
    obtain ⟨tbdiv_u, position_u⟩ := positionAdvances s u sound running kept first
    have quiet_u : u.noConfigureFor n := by
      unfold State.noConfigureFor
      rw [step_input running first]
      exact later
    obtain ⟨t, rest, sound_t, tbdiv_t, position_t⟩ := ih (step_sound sound first) quiet_u
    refine ⟨t, by simpa [runSteps, first] using rest, sound_t, tbdiv_t.trans tbdiv_u, ?_⟩
    rw [position_t, tickPeriod_congr tbdiv_u, position_u, Nat.mod_add_mod, Nat.add_assoc, Nat.add_comm 1 n]

/-- The residue before a multiple of the modulus is the last one. -/
theorem mod_succ_eq_iff {p : Nat} (positive : 0 < p) : n % p + 1 = p ↔ (n + 1) % p = 0 := by
  obtain ⟨q, rfl⟩ := Nat.exists_eq_add_one.mpr positive
  rw [Nat.succ_mod_succ_eq_zero_iff, Nat.add_left_inj]

/-- Settles O48: the count and the overflow at position `n` modulo the period. -/
theorem overflowsAreOnePeriodApart : Obligations.OverflowsAreOnePeriodApart := by
  intro s n sound start quiet
  obtain ⟨t, run, sound_t, tbdiv, position⟩ := position_after_runSteps sound quiet
  have positive : 0 < s.tickPeriod := Nat.zero_lt_of_lt (position_lt_tickPeriod sound)
  rw [start, Nat.zero_add] at position
  refine ⟨t, run, ?_, ?_⟩
  · rw [tbcnt_eq_position_div sound_t, position, tbdiv, State.tickPeriod, Nat.mod_mul_left_div_self]
  · rw [overflows_iff_position sound_t, position, tickPeriod_congr tbdiv, mod_succ_eq_iff positive]

end Sys2Proof.Machine
end

section
/-!
PROOFS. The choice of the divisor (40_timebase.md R124, R128): the loop of `select_div` compares distances of achieved rates in
cross-multiplied form, and preferring the nearer, of two equally near the smaller, is transitive.
-/

namespace Sys2Proof.Machine

/-- The distance between the rate that divisor `d` achieves and the target, as an exact rational (R124). -/
def rateDistance (clk tgt d : Nat) : ℚ := |(clk : ℚ) / (256 * (d : ℚ)) - (tgt : ℚ)|

/-- Divisor `d` is nearer to the target than `e`, or as near and not larger. -/
def Preferred (clk tgt d e : Nat) : Prop :=
  rateDistance clk tgt d ≤ rateDistance clk tgt e ∧ (rateDistance clk tgt d = rateDistance clk tgt e → d ≤ e)

variable {clk tgt b d e : Nat} {l : List Nat}

theorem Preferred.refl (clk tgt d : Nat) : Preferred clk tgt d d := ⟨le_refl _, fun _ => le_refl _⟩

theorem Preferred.trans (first : Preferred clk tgt b d) (second : Preferred clk tgt d e) : Preferred clk tgt b e := by
  obtain ⟨nearer, tie⟩ := first
  obtain ⟨nearer', tie'⟩ := second
  refine ⟨nearer.trans nearer', fun same => ?_⟩
  have first_same : rateDistance clk tgt b = rateDistance clk tgt d := le_antisymm nearer (same ▸ nearer')
  exact (tie first_same).trans (tie' (first_same.symm.trans same))

/-- The error of R124 is the distance of the rates times `256 * d`. -/
theorem rateDistance_eq (positive : 0 < d) : rateDistance clk tgt d = (rateError clk tgt d : ℚ) / (256 * (d : ℚ)) := by
  have scale : (0 : ℚ) < 256 * (d : ℚ) := by positivity
  rw [eq_div_iff scale.ne', rateDistance, rateError, Nat.cast_natAbs, ← abs_of_pos scale, ← abs_mul, abs_of_pos scale,
    sub_mul, div_mul_cancel₀ _ scale.ne']
  push_cast [tbModulus]
  ring_nf

/-- The comparison of the loop is the comparison of the distances (R124). -/
theorem rateError_mul_lt_iff (d_pos : 0 < d) (e_pos : 0 < e) :
    rateError clk tgt d * e < rateError clk tgt e * d ↔ rateDistance clk tgt d < rateDistance clk tgt e := by
  have scale : ∀ {n : Nat}, 0 < n → (0 : ℚ) < 256 * (n : ℚ) := fun positive => by positivity
  rw [rateDistance_eq d_pos, rateDistance_eq e_pos, div_lt_div_iff₀ (scale d_pos) (scale e_pos), mul_left_comm,
    mul_left_comm (rateError clk tgt e : ℚ), mul_lt_mul_iff_of_pos_left (by norm_num)]
  exact_mod_cast Iff.rfl

/-- One round of the loop prefers its result to both candidates, of which the earlier is the smaller. -/
theorem nearerDivisor_preferred (b_pos : 0 < b) (rising : b < d) :
    Preferred clk tgt (nearerDivisor clk tgt b d) b ∧ Preferred clk tgt (nearerDivisor clk tgt b d) d := by
  unfold nearerDivisor
  split
  next nearer =>
    rw [rateError_mul_lt_iff (b_pos.trans rising) b_pos] at nearer
    exact ⟨⟨nearer.le, fun same => absurd same nearer.ne⟩, .refl clk tgt d⟩
  next notNearer =>
    rw [rateError_mul_lt_iff (b_pos.trans rising) b_pos, not_lt] at notNearer
    exact ⟨.refl clk tgt b, notNearer, fun _ => rising.le⟩

/-- The loop over rising divisors prefers its result to every one of them. -/
theorem foldl_nearerDivisor_preferred (b_pos : 0 < b) (rising : (b :: l).Pairwise (· < ·)) :
    ∀ e ∈ b :: l, Preferred clk tgt (l.foldl (nearerDivisor clk tgt) b) e := by
  induction l generalizing b with
  | nil => simpa using Preferred.refl clk tgt b
  | cons d ds ih =>
    simp only [List.pairwise_cons, List.forall_mem_cons] at rising
    obtain ⟨⟨b_lt_d, b_lt⟩, d_lt, rising_ds⟩ := rising
    obtain ⟨over_b, over_d⟩ := nearerDivisor_preferred (clk := clk) (tgt := tgt) b_pos b_lt_d
    have best_cases : nearerDivisor clk tgt b d = d ∨ nearerDivisor clk tgt b d = b := ite_eq_or_eq _ _ _
    have best_pos : 0 < nearerDivisor clk tgt b d := by rcases best_cases with eq | eq <;> omega
    have best_lt : ∀ e ∈ ds, nearerDivisor clk tgt b d < e := by
      rcases best_cases with eq | eq <;> rw [eq] <;> assumption
    have preferred := ih best_pos (List.pairwise_cons.mpr ⟨best_lt, rising_ds⟩)
    simp only [List.forall_mem_cons] at preferred ⊢
    obtain ⟨over_best, over_ds⟩ := preferred
    exact ⟨over_best.trans over_b, over_best.trans over_d, over_ds⟩

/-- Settles O54: a legal `DIVISORS` is positive and rising, so the loop's result is preferred to every member. -/
theorem selectDivIsNearest : Obligations.SelectDivIsNearest := by
  intro c clk tgt legal _ _
  obtain ⟨-, rising, -⟩ := (Config.legal_iff c).mp legal
  obtain ⟨first_pos, -⟩ := divisor_range legal (d := c.firstDivisor) List.mem_cons_self
  exact ⟨selectDiv_mem c clk tgt, foldl_nearerDivisor_preferred first_pos rising⟩

/-- The achieved rate is the target exactly when the clock rate is the target times the period (R128). -/
theorem achievedRate_eq_tgtrate_iff {s : State} (positive : 0 < s.tbdiv.toNat) :
    s.achievedRate = (s.tgtrate.toNat : ℚ) ↔ s.clkrate.toNat = 256 * s.tbdiv.toNat * s.tgtrate.toNat := by
  have period_ne : ((256 * s.tbdiv.toNat : Nat) : ℚ) ≠ 0 := by positivity
  rw [State.achievedRate, div_eq_iff period_ne, mul_comm]
  exact_mod_cast Iff.rfl

/-- Settles O55: a divisor of a legal configuration fits `TBDIV` and is positive. -/
theorem achievedRateAfterConfigure : Obligations.AchievedRateAfterConfigure := by
  intro s t legal disarmed clk tgt h
  cases (exec_cmdConfigure_of_rates disarmed clk tgt).symm.trans h
  have whole := configured_tbdiv_toNat legal
  have member : s.configured.tbdiv.toNat ∈ s.cfg.divisors := whole ▸ selectDiv_mem _ _ _
  exact ⟨whole, member, achievedRate_eq_tgtrate_iff (divisor_range legal member).1⟩

end Sys2Proof.Machine
end

section
/-!
PROOFS. The handler run (41_dds_engine.md R150 to R169) cycle by cycle: from a pending tick each step is the edge of one engine
operation, so that the six of them have the effect of one tick; and the alignment of R169 over every step.
-/

namespace Sys2Proof.Machine

variable {s t : State} {i : Instr} {n : Nat}

/-- A write or command keeps the alignment when it is performed with the engine idle: only `CONFIGURE` moves the count, and it is
done disarmed, with no tick pending (R125). -/
theorem WriteEffect.onTime (effect : WriteEffect i s t) (sound : s.Sound) (onTime : s.OnTime) (idle : s.eng = Eng.idle) :
    t.OnTime := by
  obtain ⟨-, -, armedIfPending, -⟩ := sound
  cases effect with
  | configured disarmed =>
    have calm : s.pend ≠ true := fun pend => by simpa [disarmed] using armedIfPending pend
    exact ⟨fun pend => absurd pend calm, fun busy => absurd idle busy⟩
  | disabled => exact ⟨nofun, fun busy => absurd idle busy⟩
  | _ => exact onTime

/-- One step keeps the alignment, reset or not, whatever is presented. -/
theorem step_onTime (sound : s.Sound) (onTime : s.OnTime) (h : step s = .next t) : t.OnTime := by
  cases reset : s.presented.rst with
  | true =>
    cases (step_of_reset reset).symm.trans h
    exact resetWith_onTime _ _ _
  | false =>
    obtain ⟨b, m, edge, rest⟩ := step_eq_edge_then_write reset h
    have sound_m := everyEdge_sound (openCycle_deliver_sound sound b) edge
    have onTime_m := everyEdge_onTime (s := s.openCycle.deliver b) sound onTime edge
    rcases rest with rfl | ⟨performed, -, effect⟩
    · exact onTime_m
    · obtain ⟨-, -, idle, calm⟩ := performs_iff.mp performed
      exact effect.onTime sound_m onTime_m (everyEdge_eng_of_hostMayAct edge idle calm)

/-- Settles O34: the edge keeps the alignment, and so does a write that follows it. -/
theorem stepKeepsOnTime : Obligations.StepKeepsOnTime :=
  fun _ _ => step_onTime

/-- Soundness and alignment hold together after any number of steps. -/
theorem sound_onTime_of_runSteps (sound : s.Sound) (onTime : s.OnTime) (h : runSteps n s = .next t) : t.Sound ∧ t.OnTime :=
  runSteps_keeps (P := fun u => u.Sound ∧ u.OnTime)
    (fun _ _ ⟨sound, onTime⟩ next => ⟨step_sound sound next, step_onTime sound onTime next⟩) ⟨sound, onTime⟩ h

/-- Steps run one part after the other. -/
theorem runSteps_add (m n : Nat) (s : State) : runSteps (m + n) s = andThen (runSteps m s) (runSteps n) := by
  induction m generalizing s with
  | zero => rw [Nat.zero_add]; rfl
  | succ m ih =>
    rw [Nat.succ_add]
    cases first : step s <;> simp [runSteps, first, ih, andThen]

/-- A cycle in which no transaction is performed and the engine does `f`. -/
def State.edgeOf (s : State) (f : State → State) : State := (f s.openCycle.carrierStep).timebaseCount.latchTick s.overflows

section
variable (f : State → State)

@[simp] theorem edgeOf_phacc0 : (s.edgeOf f).phacc0 = (f s.openCycle.carrierStep).phacc0 := by simp [State.edgeOf]
@[simp] theorem edgeOf_phacc1 : (s.edgeOf f).phacc1 = (f s.openCycle.carrierStep).phacc1 := by simp [State.edgeOf]
@[simp] theorem edgeOf_phinc0 : (s.edgeOf f).phinc0 = (f s.openCycle.carrierStep).phinc0 := by simp [State.edgeOf]
@[simp] theorem edgeOf_phinc1 : (s.edgeOf f).phinc1 = (f s.openCycle.carrierStep).phinc1 := by simp [State.edgeOf]
@[simp] theorem edgeOf_duty0 : (s.edgeOf f).duty0 = (f s.openCycle.carrierStep).duty0 := by simp [State.edgeOf]
@[simp] theorem edgeOf_duty1 : (s.edgeOf f).duty1 = (f s.openCycle.carrierStep).duty1 := by simp [State.edgeOf]
@[simp] theorem edgeOf_eng : (s.edgeOf f).eng = (f s.openCycle.carrierStep).eng := by simp [State.edgeOf]
@[simp] theorem edgeOf_ie : (s.edgeOf f).ie = (f s.openCycle.carrierStep).ie := by simp [State.edgeOf]
@[simp] theorem edgeOf_tbdiv : (s.edgeOf f).tbdiv = (f s.openCycle.carrierStep).tbdiv := by simp [State.edgeOf]
@[simp] theorem edgeOf_tickcnt : (s.edgeOf f).tickcnt = (f s.openCycle.carrierStep).tickcnt := by simp [State.edgeOf]
@[simp] theorem edgeOf_tstart : (s.edgeOf f).tstart = (f s.openCycle.carrierStep).tstart := by simp [State.edgeOf]
@[simp] theorem edgeOf_tstop : (s.edgeOf f).tstop = (f s.openCycle.carrierStep).tstop := by simp [State.edgeOf]
@[simp] theorem edgeOf_cfg : (s.edgeOf f).cfg = (f s.openCycle.carrierStep).cfg := by simp [State.edgeOf]
@[simp] theorem edgeOf_out : (s.edgeOf f).out = (f s.openCycle.carrierStep).out := by simp [State.edgeOf]

end

/-- With a tick pending or the engine busy a step is the edge of what the engine does (R76). -/
theorem step_eq_edgeOf {f : State → State} (running : s.presented.rst = false) (held : s.eng ≠ Eng.idle ∨ s.pend = true)
    (engine : engineOp s.openCycle.carrierStep = .next (f s.openCycle.carrierStep)) : step s = .next (s.edgeOf f) := by
  rw [step_of_held running held, everyEdge_of_engineOp engine]
  rfl

/-- What the engine does in cycle `n` of a handler run, counted from the cycle of the pending tick (R151 to R156). -/
def handlerOp : Nat → State → State
  | 0 => State.enterTick
  | 1 => State.recordStart
  | 2 => State.advanceChannel0
  | 3 => State.advanceChannel1
  | 4 => State.recordStop
  | _ => fun s => s.countTick.returnFromTick

/-- The state in cycle `n` of the handler run of the tick that is pending in `s`. -/
def State.handlerCycle (s : State) : Nat → State
  | 0 => s
  | n + 1 => (s.handlerCycle n).edgeOf (handlerOp n)

/-- In cycle `n` the engine stands at step `n`, and after the last one it is idle (R169). -/
theorem handlerCycle_eng (idle : s.eng = Eng.idle) (h : n ≤ 6) : (s.handlerCycle n).eng.toNat = n % 6 := by
  cases n with
  | zero => rw [State.handlerCycle, idle]; rfl
  | succ n =>
    have last : n ≤ 5 := by omega
    interval_cases n <;> simp [State.handlerCycle, handlerOp]

/-- The engine operation selected at step `n`, with a tick pending at step 0, is that of cycle `n`. -/
theorem engineOp_eq_handlerOp (code : s.eng.toNat = n) (pending : n = 0 → s.pend = true) (h : n ≤ 5) :
    engineOp s = .next (handlerOp n s) := by
  have at_step : s.eng = BitVec.ofNat 3 n := by rw [← code, BitVec.ofNat_toNat, BitVec.setWidth_eq]
  unfold engineOp
  rw [at_step]
  interval_cases n
  · simp [decodeEng, handlerOp, State.dispatchTick, dispatches_iff.mpr ⟨at_step, pending rfl⟩]
  all_goals rfl

/-- From the cycle after the dispatch to its last one the engine is busy. -/
theorem handlerCycle_busy (idle : s.eng = Eng.idle) (started : 0 < n) (h : n ≤ 5) :
    (s.handlerCycle n).eng ≠ Eng.idle := by
  intro rest
  have code := handlerCycle_eng (n := n) idle (by omega)
  rw [rest, Nat.mod_eq_of_lt (by omega)] at code
  exact started.ne code

/-- In the six cycles of a handler run the host has to wait (R76). -/
theorem handlerCycle_held (idle : s.eng = Eng.idle) (pend : s.pend = true) (h : n ≤ 5) :
    (s.handlerCycle n).eng ≠ Eng.idle ∨ (s.handlerCycle n).pend = true := by
  cases n with
  | zero => exact .inr pend
  | succ n => exact .inl (handlerCycle_busy idle (Nat.succ_pos n) h)

/-- The step at cycle `n` of a handler run leads to cycle `n + 1`. -/
theorem step_handlerCycle (idle : s.eng = Eng.idle) (pend : s.pend = true) (h : n ≤ 5)
    (running : (s.handlerCycle n).presented.rst = false) : step (s.handlerCycle n) = .next (s.handlerCycle (n + 1)) := by
  have code := handlerCycle_eng (n := n) idle (by omega)
  rw [Nat.mod_eq_of_lt (by omega)] at code
  refine step_eq_edgeOf running (handlerCycle_held idle pend h) (engineOp_eq_handlerOp (by simpa using code) ?_ h)
  rintro rfl
  simpa [State.handlerCycle] using pend

/-- A run of steps ends with its last one. -/
theorem runSteps_succ_of_runSteps (h : runSteps n s = .next t) : runSteps (n + 1) s = step t := by
  rw [runSteps_add, h, andThen_next]
  show andThen (step t) (.next ·) = step t
  cases step t <;> rfl

/-- A step without reset leaves a run without reset that is one cycle shorter. -/
theorem noResetFor_of_step (running : s.noResetFor (n + 1)) (h : step s = .next t) :
    s.presented.rst = false ∧ t.noResetFor n := by
  obtain ⟨now, later⟩ := noResetFor_succ running
  rw [State.noResetFor, step_input now h]
  exact ⟨now, later⟩

/-- A run without reset takes one input a step (30_encoding.md R92). -/
theorem runSteps_input (running : s.noResetFor n) (h : runSteps n s = .next t) : t.input = s.input.drop n := by
  induction n generalizing s with
  | zero => cases h; rfl
  | succ n ih =>
    obtain ⟨u, first, rest⟩ := andThen_eq_next h
    obtain ⟨now, later⟩ := noResetFor_of_step running first
    rw [ih later rest, step_input now first, List.drop_tail]

/-- The first cycles of a run without reset are without reset. -/
theorem noResetFor_mono {m : Nat} (running : s.noResetFor m) (h : n ≤ m) : s.noResetFor n :=
  fun p hp => running p (List.take_subset_take_left _ h hp)

/-- A cycle within a run without reset is without reset. -/
theorem presented_rst_of_noResetFor {m : Nat} (running : s.noResetFor m) (within : n < m) (h : t.input = s.input.drop n) :
    t.presented.rst = false := by
  rw [State.presented, h, List.headD_eq_head?_getD, List.head?_drop]
  cases at_n : s.input[n]? with
  | none => rfl
  | some p =>
    apply running
    obtain ⟨inside, rfl⟩ := List.getElem?_eq_some_iff.mp at_n
    exact List.mem_take_iff_getElem.mpr ⟨n, by omega, rfl⟩

/-- The steps of a handler run lead through its cycles, whatever is presented short of reset. -/
theorem runSteps_handlerCycle (idle : s.eng = Eng.idle) (pend : s.pend = true) (running : s.noResetFor 6) (h : n ≤ 6) :
    runSteps n s = .next (s.handlerCycle n) := by
  induction n with
  | zero => rfl
  | succ n ih =>
    have before := ih (by omega)
    have input := runSteps_input (noResetFor_mono running (by omega)) before
    have now := presented_rst_of_noResetFor running (by omega) input
    rw [runSteps_succ_of_runSteps before, step_handlerCycle idle pend (by omega) now]

/-- Settles O44: field by field along the six cycles, of which each writes its own registers. -/
theorem handlerRunIsOneTick : Obligations.HandlerRunIsOneTick := by
  intro s idle pend running
  have runs {n : Nat} (h : n ≤ 6) := runSteps_handlerCycle idle pend running h
  refine ⟨_, _, _, runs (n := 1) (by omega), runs (n := 4) (by omega), runs (n := 6) (by omega), ?_⟩
  simp [State.handlerCycle, handlerOp, tick, phaseStep]

/-- The divisor stays in a handler run. -/
theorem handlerCycle_tbdiv (h : n ≤ 6) : (s.handlerCycle n).tbdiv = s.tbdiv := by
  interval_cases n <;> simp [State.handlerCycle, handlerOp]

/-- In the cycles of a handler run after the first, `h_ready` was 0 in the cycle before (30_encoding.md R106). -/
theorem handlerCycle_hReady (idle : s.eng = Eng.idle) (pend : s.pend = true) (h : n ≤ 5) :
    (s.handlerCycle (n + 1)).out.hReady = false := by
  have held := handlerCycle_held idle pend h
  have opened : (s.handlerCycle (n + 1)).out = (s.handlerCycle n).openCycle.out := by
    interval_cases n <;> simp [State.handlerCycle, handlerOp]
  rw [opened, ← Bool.not_eq_true]
  show ¬ hReady _ _ = true
  rw [hReady_iff]
  rintro ⟨-, idle', calm⟩
  simp [idle', calm] at held

/-- A run that begins with the step to `u` goes on from `u`. -/
theorem runSteps_succ_of_step {u : State} (first : step s = .next u) (n : Nat) : runSteps (n + 1) s = runSteps n u := by
  rw [runSteps, first, andThen_next]

/-- In cycle `n` of an aligned handler run the count is `n` in whole divisors (R169). -/
theorem handlerCycle_tbcnt (sound : s.Sound) (onTime : s.OnTime) (idle : s.eng = Eng.idle) (pend : s.pend = true)
    (running : s.noResetFor 6) (started : 0 < n) (h : n ≤ 5) : (s.handlerCycle n).tbcnt.toNat = n / s.tbdiv.toNat := by
  have run := runSteps_handlerCycle (n := n) idle pend running (by omega)
  obtain ⟨sound_n, -, place⟩ := sound_onTime_of_runSteps sound onTime run
  have code := handlerCycle_eng (n := n) idle (by omega)
  rw [Nat.mod_eq_of_lt (by omega)] at code
  obtain ⟨-, position⟩ := place (handlerCycle_busy idle started h)
  rw [tbcnt_eq_position_div sound_n, position, code, handlerCycle_tbdiv (by omega)]

/-- After the six steps of a handler run no tick is pending. -/
theorem calm_after_handlerRun (sound : s.Sound) (onTime : s.OnTime) (pend : s.pend = true) (running : s.noResetFor 6)
    (h : runSteps 6 s = .next t) : t.pend = false := by
  have wait : s.waitCycles = 6 := by simp [State.waitCycles, pend]
  obtain ⟨u, run, -, calm⟩ := hostMayAct_after_waitCycles sound onTime wait running
  have same : u = t := Host.Outcome.next.inj (run.symm.trans h)
  exact same ▸ calm

/-- An armed overflow without `DISABLE` leaves a tick pending with the engine idle (R122). -/
theorem pending_of_overflow (sound : s.Sound) (onTime : s.OnTime) (overflow : s.overflows = true) (armed : s.ie = true)
    (running : s.presented.rst = false) (kept : ¬ s.performsWrite 0x01 0x03) (h : step s = .next t) :
    t.eng = Eng.idle ∧ t.pend = true ∧ t.position = 0 := by
  obtain ⟨-, latch⟩ := pendingLatchOnEveryEdge s t running h
  have pend : t.pend = true := by
    rw [latch kept, ← and_assoc, ← overflows_iff]
    exact .inr ⟨overflow, armed⟩
  obtain ⟨pending, -⟩ := step_onTime sound onTime h
  obtain ⟨idle, start⟩ := pending pend
  exact ⟨idle, pend, start⟩

/-- Settles O45: the overflow's edge raises the tick, and from there on the states are the cycles of its handler run. -/
theorem handlerRunTimeline : Obligations.HandlerRunTimeline := by
  intro s sound onTime overflow armed running kept
  obtain ⟨u, first⟩ := step_completes (.inr (eng_le_of_sound sound))
  obtain ⟨now, later⟩ := noResetFor_of_step running first
  obtain ⟨idle, pend, -⟩ := pending_of_overflow sound onTime overflow armed now kept first
  obtain ⟨-, -, tbdiv, -⟩ := incrementsLockedWhileArmed s u now armed first
  have sound_u := step_sound sound first
  have onTime_u := step_onTime sound onTime first
  have runs {n : Nat} (h : n ≤ 6) : runSteps (n + 1) s = .next (u.handlerCycle n) :=
    (runSteps_succ_of_step first n).trans (runSteps_handlerCycle idle pend later h)
  have code {n : Nat} (h : n ≤ 6) := handlerCycle_eng (n := n) idle h
  have waits {n : Nat} (h : n ≤ 5) := handlerCycle_hReady idle pend h
  have count {n : Nat} := handlerCycle_tbcnt (n := n) sound_u onTime_u idle pend later
  have calm := calm_after_handlerRun sound_u onTime_u pend later (runSteps_handlerCycle idle pend later le_rfl)
  refine ⟨_, _, _, _, _, _, _, runs (n := 0) (by omega), runs (n := 1) (by omega), runs (n := 2) (by omega),
    runs (n := 3) (by omega), runs (n := 4) (by omega), runs (n := 5) (by omega), runs (n := 6) (by omega),
    ⟨idle, pend⟩, ?_, ?_, ?_, ?_, ?_, ⟨?_, calm⟩,
    waits (by omega), waits (by omega), waits (by omega), waits (by omega), waits (by omega), waits (by omega), ?_, ?_⟩
  case refine_7 =>
    rw [← tbdiv, ← count (n := 1) (by omega) (by omega)]
    simp [State.handlerCycle, handlerOp]
  case refine_8 =>
    rw [← tbdiv, ← count (n := 4) (by omega) (by omega)]
    simp [State.handlerCycle, handlerOp]
  all_goals exact BitVec.eq_of_toNat_eq (code (by omega))

end Sys2Proof.Machine
end

section
/-!
PROOFS. The steady tone (41_dds_engine.md R160): between two ticks the engine's registers stand still, so a tick period has the
effect of its handler run, and `n` periods that of `n` ticks.
-/

namespace Sys2Proof.Machine

variable {s t u : State} {m n : Nat}

/-- From `s` to `t` the tone goes on by `n` ticks: the phases by `n` increments, which stay, and the tick counter by `n`; the tick
period and `IE` stay. -/
structure ToneAfter (n : Nat) (s t : State) : Prop where
  phacc0 : t.phacc0.toNat = (s.phacc0.toNat + n * s.phinc0.toNat) % 2 ^ 32
  phacc1 : t.phacc1.toNat = (s.phacc1.toNat + n * s.phinc1.toNat) % 2 ^ 32
  phinc0 : t.phinc0 = s.phinc0
  phinc1 : t.phinc1 = s.phinc1
  tickcnt : t.tickcnt.toNat = (s.tickcnt.toNat + n) % 2 ^ 16
  tbdiv : t.tbdiv = s.tbdiv
  ie : t.ie = s.ie

/-- Registers that stand still are a tone of no ticks. -/
theorem toneAfter_zero (phacc0 : t.phacc0 = s.phacc0) (phacc1 : t.phacc1 = s.phacc1) (phinc0 : t.phinc0 = s.phinc0)
    (phinc1 : t.phinc1 = s.phinc1) (tickcnt : t.tickcnt = s.tickcnt) (tbdiv : t.tbdiv = s.tbdiv) (ie : t.ie = s.ie) :
    ToneAfter 0 s t where
  phacc0 := by rw [phacc0, Nat.zero_mul, Nat.add_zero, Nat.mod_eq_of_lt (BitVec.isLt _)]
  phacc1 := by rw [phacc1, Nat.zero_mul, Nat.add_zero, Nat.mod_eq_of_lt (BitVec.isLt _)]
  phinc0 := phinc0
  phinc1 := phinc1
  tickcnt := by rw [tickcnt, Nat.add_zero, Nat.mod_eq_of_lt (BitVec.isLt _)]
  tbdiv := tbdiv
  ie := ie

/-- The ticks of two stretches add up. -/
theorem ToneAfter.trans (first : ToneAfter m s t) (second : ToneAfter n t u) : ToneAfter (m + n) s u where
  phacc0 := by rw [second.phacc0, first.phacc0, first.phinc0, Nat.mod_add_mod, Nat.add_assoc, ← Nat.add_mul]
  phacc1 := by rw [second.phacc1, first.phacc1, first.phinc1, Nat.mod_add_mod, Nat.add_assoc, ← Nat.add_mul]
  phinc0 := second.phinc0.trans first.phinc0
  phinc1 := second.phinc1.trans first.phinc1
  tickcnt := by rw [second.tickcnt, first.tickcnt, Nat.mod_add_mod, Nat.add_assoc]
  tbdiv := second.tbdiv.trans first.tbdiv
  ie := second.ie.trans first.ie

/-- The six steps of a handler run are a tone of one tick (R157, R160). -/
theorem toneAfter_one_of_handlerRun (idle : s.eng = Eng.idle) (pend : s.pend = true) (running : s.noResetFor 6)
    (h : runSteps 6 s = .next t) : t.eng = Eng.idle ∧ ToneAfter 1 s t := by
  obtain ⟨a, b, t', -, -, run, eng, -, -, phacc0, phacc1, -, -, tickcnt, phinc0, phinc1, ie, tbdiv⟩ :=
    handlerRunIsOneTick s idle pend running
  obtain rfl : t' = t := Host.Outcome.next.inj (run.symm.trans h)
  refine ⟨eng, ⟨?_, ?_, phinc0, phinc1, ?_, tbdiv, ie⟩⟩
  · rw [phacc0, tick, BitVec.toNat_add, Nat.one_mul]
  · rw [phacc1, tick, BitVec.toNat_add, Nat.one_mul]
  · rw [tickcnt, tick, BitVec.toNat_add]
    rfl

/-- A quiet stretch begins with a cycle without reset and write (with no input left, nothing is presented). -/
theorem quietFor_presented (quiet : s.quietFor (n + 1)) : s.presented.rst = false ∧ s.presented.hWrite = false := by
  unfold State.presented
  cases inputs : s.input with
  | nil => exact ⟨rfl, rfl⟩
  | cons p rest => exact quiet p (by simp [inputs])

/-- A quiet stretch is one without reset. -/
theorem noResetFor_of_quietFor (quiet : s.quietFor m) (h : n ≤ m) : s.noResetFor n :=
  noResetFor_mono (fun p hp => (quiet p hp).1) h

/-- A quiet stretch is one without reset and `CONFIGURE`, which is a write. -/
theorem noConfigureFor_of_quietFor (quiet : s.quietFor m) (h : n ≤ m) : s.noConfigureFor n := by
  intro p hp
  obtain ⟨running, isRead⟩ := quiet p (List.take_subset_take_left _ h hp)
  exact ⟨running, fun ⟨_, isWrite, _⟩ => by simp [isRead] at isWrite⟩

/-- After the first steps of a quiet stretch the rest of it is left. -/
theorem quietFor_of_runSteps (quiet : s.quietFor (m + n)) (h : runSteps m s = .next t) : t.quietFor n := by
  intro p hp
  rw [runSteps_input (noResetFor_of_quietFor quiet (Nat.le_add_right m n)) h, List.take_drop] at hp
  exact quiet p (List.mem_of_mem_drop hp)

/-- Between two ticks a step without reset and write only counts, and raises a tick exactly on an overflow (R122, R131). -/
theorem step_between_ticks (sound : s.Sound) (idle : s.eng = Eng.idle) (calm : s.pend = false) (armed : s.ie = true)
    (running : s.presented.rst = false) (isRead : s.presented.hWrite = false) (h : step s = .next t) :
    t.eng = Eng.idle ∧ t.pend = s.overflows ∧ t.position = (s.position + 1) % s.tickPeriod ∧ ToneAfter 0 s t := by
  have noWrite (a : Addr) (d : Byte) : ¬ s.performsWrite a d := fun ⟨_, _, isWrite, _⟩ => by simp [isRead] at isWrite
  obtain ⟨-, latch⟩ := pendingLatchOnEveryEdge s t running h
  obtain ⟨phinc0, phinc1, -⟩ := incrementsLockedWhileArmed s t running armed h
  obtain ⟨ch0, ch1, -, -, cnt⟩ := engineOwnsPhaseAndDuty s t running h
  obtain ⟨tbdiv, position⟩ := positionAdvances s t sound running (fun ⟨write, _⟩ => noWrite _ _ write) h
  rw [step_of_read running isRead] at h
  obtain ⟨-, -, -, -, ie, -⟩ := everyEdge_keeps h
  have pend : t.pend = s.overflows := by
    rw [Bool.eq_iff_iff, latch (noWrite _ _), overflows_iff]
    simp [calm, armed]
  have idle_ne {c : EngCode} (step_code : Eng.idle ≠ c) : s.eng ≠ c := idle ▸ step_code
  obtain ⟨phacc0, -⟩ := ch0 (idle_ne (by decide))
  obtain ⟨phacc1, -⟩ := ch1 (idle_ne (by decide))
  exact ⟨everyEdge_eng_of_hostMayAct h idle calm, pend, position,
    toneAfter_zero phacc0 phacc1 phinc0 phinc1 (cnt (idle_ne (by decide)) (noWrite _ _)) tbdiv ie⟩

/-- From any cycle between two ticks the next tick is pending after the cycles that are left of the period. -/
theorem pending_at_end_of_period (sound : s.Sound) (idle : s.eng = Eng.idle) (calm : s.pend = false) (armed : s.ie = true)
    (quiet : s.quietFor n) (left : s.position + n = s.tickPeriod) :
    ∃ t, runSteps n s = .next t ∧ t.pend = true ∧ ToneAfter 0 s t := by
  have within := position_lt_tickPeriod sound
  induction n generalizing s with
  | zero => omega
  | succ n ih =>
    obtain ⟨running, isRead⟩ := quietFor_presented quiet
    obtain ⟨u, first⟩ := step_completes (.inr (eng_le_of_sound sound))
    obtain ⟨idle_u, pend_u, position, tone⟩ := step_between_ticks sound idle calm armed running isRead first
    rw [runSteps_succ_of_step first]
    rcases Nat.eq_zero_or_pos n with rfl | more
    · exact ⟨u, rfl, by rw [pend_u, overflows_iff_position sound, left], tone⟩
    · have period := tickPeriod_congr tone.tbdiv
      rw [Nat.mod_eq_of_lt (by omega)] at position
      have calm_u : u.pend = false := by
        rw [pend_u, ← Bool.not_eq_true, overflows_iff_position sound]
        omega
      have quiet_u : u.quietFor n := quietFor_of_runSteps (m := 1) (Nat.add_comm n 1 ▸ quiet) (runSteps_succ_of_step first 0)
      have sound_u := step_sound sound first
      obtain ⟨t, rest, pend, tone'⟩ := ih sound_u idle_u calm_u (tone.ie.trans armed) quiet_u (by omega)
        (position_lt_tickPeriod sound_u)
      exact ⟨t, rest, pend, tone.trans tone'⟩

/-- A quiet tick period leads from a pending tick to the next, and has the effect of one tick. -/
theorem tick_period (sound : s.Sound) (onTime : s.OnTime) (pend : s.pend = true) (quiet : s.quietFor s.tickPeriod) :
    ∃ t, runSteps s.tickPeriod s = .next t ∧ t.pend = true ∧ ToneAfter 1 s t := by
  have ⟨pending, _⟩ := onTime
  obtain ⟨idle, start⟩ := pending pend
  have long := tickPeriod_ge sound
  have running : s.noResetFor 6 := noResetFor_of_quietFor quiet (by omega)
  obtain ⟨u, run, sound_u, tbdiv, position⟩ :=
    position_after_runSteps sound (noConfigureFor_of_quietFor quiet (n := 6) (by omega))
  rw [start, Nat.zero_add, Nat.mod_eq_of_lt (by omega)] at position
  have calm_u := calm_after_handlerRun sound onTime pend running run
  obtain ⟨idle_u, tone⟩ := toneAfter_one_of_handlerRun idle pend running run
  obtain ⟨-, -, armed, -⟩ := sound
  obtain ⟨rest, split⟩ := Nat.exists_eq_add_of_le (show 6 ≤ s.tickPeriod by omega)
  rw [split] at quiet ⊢
  obtain ⟨t, run', pend', tone'⟩ := pending_at_end_of_period sound_u idle_u calm_u (tone.ie.trans (armed pend))
    (quietFor_of_runSteps quiet run) (by rw [position, tickPeriod_congr tbdiv, split])
  exact ⟨t, by rw [runSteps_add, run, andThen_next, run'], pend', tone.trans tone'⟩

/-- `n` quiet tick periods have the effect of `n` ticks. -/
theorem tick_periods (sound : s.Sound) (onTime : s.OnTime) (pend : s.pend = true) (quiet : s.quietFor (n * s.tickPeriod)) :
    ∃ t, runSteps (n * s.tickPeriod) s = .next t ∧ t.pend = true ∧ ToneAfter n s t := by
  induction n generalizing s with
  | zero =>
    rw [Nat.zero_mul]
    exact ⟨s, rfl, pend, toneAfter_zero rfl rfl rfl rfl rfl rfl rfl⟩
  | succ n ih =>
    rw [Nat.succ_mul, Nat.add_comm] at quiet ⊢
    have quiet_first : s.quietFor s.tickPeriod :=
      fun p hp => quiet p (List.take_subset_take_left _ (Nat.le_add_right _ _) hp)
    obtain ⟨u, run, pend_u, tone⟩ := tick_period sound onTime pend quiet_first
    obtain ⟨sound_u, onTime_u⟩ := sound_onTime_of_runSteps sound onTime run
    have quiet_u := quietFor_of_runSteps quiet run
    rw [← tickPeriod_congr tone.tbdiv] at quiet_u
    obtain ⟨t, run', pend', tone'⟩ := ih sound_u onTime_u pend_u quiet_u
    rw [tickPeriod_congr tone.tbdiv] at run'
    exact ⟨t, by rw [runSteps_add, run, andThen_next, run'], pend', Nat.add_comm n 1 ▸ tone.trans tone'⟩

/-- Settles O50: `n` periods, and a pending tick stands where the alignment puts it. -/
theorem steadyTone : Obligations.SteadyTone := by
  intro s n sound onTime pend quiet
  obtain ⟨t, run, pend', tone⟩ := tick_periods sound onTime pend quiet
  obtain ⟨-, pending, -⟩ := sound_onTime_of_runSteps sound onTime run
  obtain ⟨idle, start⟩ := pending pend'
  exact ⟨t, run, idle, pend', start, tone.phacc0, tone.phacc1, tone.phinc0, tone.phinc1, tone.tickcnt⟩

end Sys2Proof.Machine
end

section
/-!
PROOFS. The two channels do not interfere (41_dds_engine.md R161): outside the registers of one channel, each operation depends on
nothing of that channel, and so does each step.
-/

namespace Sys2Proof.Machine

variable {s u : State}

/-- A tone channel. -/
inductive Channel where
  | ch0
  | ch1

/-- The state `s` with the registers of channel `c` and the outputs of `v`. -/
def State.graft (s : State) (c : Channel) (v : State) : State :=
  match c with
  | .ch0 =>
    { s with
      phacc0 := v.phacc0, phinc0 := v.phinc0, freq0 := v.freq0, duty0 := v.duty0, dutyact0 := v.dutyact0, out := v.out }
  | .ch1 =>
    { s with
      phacc1 := v.phacc1, phinc1 := v.phinc1, freq1 := v.freq1, duty1 := v.duty1, dutyact1 := v.dutyact1, out := v.out }

/-- The two states agree in everything but the registers of channel `c` and the outputs. -/
def AgreeOutside (c : Channel) (s u : State) : Prop := u = s.graft c u

variable {c : Channel}

/-- A state that agrees is made by some registers of the channel and some outputs. -/
theorem AgreeOutside.exists_graft (agree : AgreeOutside c s u) : ∃ v, u = s.graft c v := ⟨u, agree⟩

/-- A choice by what the two states agree in leaves them agreeing when each branch does. -/
theorem agreeOutside_ite {p : Prop} [Decidable p] {s' u' : State} (yes : AgreeOutside c s u) (no : AgreeOutside c s' u') :
    AgreeOutside c (if p then s else s') (if p then u else u') := by
  split
  · exact yes
  · exact no

/-- Two results agree: next states that agree outside the channel, or the same fault. -/
inductive ResultsAgree (c : Channel) : Result → Result → Prop where
  | next {s u : State} (agree : AgreeOutside c s u) : ResultsAgree c (.next s) (.next u)
  | fault (e : Fault) : ResultsAgree c (.fault e) (.fault e)

/-- Chains agree when their parts do. -/
theorem ResultsAgree.andThen {r r' : Result} {f g : State → Result} (first : ResultsAgree c r r')
    (rest : ∀ s u, AgreeOutside c s u → ResultsAgree c (f s) (g u)) :
    ResultsAgree c (Machine.andThen r f) (Machine.andThen r' g) := by
  cases first with
  | next agree => exact rest _ _ agree
  | fault e => exact .fault e

/-- A refusal for the same reason does the same to both states. -/
theorem unlessRefused_agree {done done' : State} (why : Option RefusedReason) (agree : AgreeOutside c s u)
    (agree' : AgreeOutside c done done') : ResultsAgree c (unlessRefused why s done) (unlessRefused why u done') := by
  obtain ⟨v, rfl⟩ := agree.exists_graft
  cases why with
  | none => exact .next agree'
  | some r => exact .next (by cases c <;> rfl)

/-- No operation lets a register of a channel show outside it: what it assigns outside is computed from what is outside. -/
theorem exec_agree (i : Instr) (agree : AgreeOutside c s u) : ResultsAgree c (exec i s) (exec i u) := by
  have refusable {why : Option RefusedReason} {done done' : State} (agree' : AgreeOutside c done done') :=
    unlessRefused_agree why agree agree'
  obtain ⟨v, rfl⟩ := agree.exists_graft
  cases c <;> cases i with
  | wrPhinc0 | wrPhinc1 | cmdEnable | cmdSetfreq0 | cmdSetfreq1 => exact refusable rfl
  | cmdConfigure => exact refusable (agreeOutside_ite rfl rfl)
  | eDispatch | tbCount | pwmStep => exact .next (agreeOutside_ite rfl rfl)
  | _ => exact .next rfl

/-- The code in `ENG` is outside both channels, and so is the stop at an unassigned one. -/
theorem engineOp_agree (agree : AgreeOutside c s u) : ResultsAgree c (engineOp s) (engineOp u) := by
  have code : u.eng = s.eng := by
    obtain ⟨v, rfl⟩ := agree.exists_graft
    cases c <;> rfl
  unfold engineOp
  rw [code]
  split
  · exact exec_agree _ agree
  · exact .fault _

/-- The overflow and `IE` are outside both channels, so the free-running edge keeps the agreement. -/
theorem everyEdge_agree (agree : AgreeOutside c s u) : ResultsAgree c (everyEdge s) (everyEdge u) := by
  have latch {m m' : State} (counted : AgreeOutside c m m') :
      AgreeOutside c (m.latchTick s.overflows) (m'.latchTick u.overflows) := by
    obtain ⟨v, rfl⟩ := agree.exists_graft
    obtain ⟨w, rfl⟩ := counted.exists_graft
    cases c <;> rfl
  exact (exec_agree _ agree).andThen fun _ _ agree => (engineOp_agree agree).andThen fun _ _ agree =>
    (exec_agree _ agree).andThen fun _ _ agree => .next (latch agree)

/-- A phase of the host port runs the same operation, or none, on both states. -/
theorem hostOp_agree (write : Bool) (p : PortIn) (performed : Bool) (agree : AgreeOutside c s u) :
    ResultsAgree c (hostOp write p performed s) (hostOp write p performed u) := by
  unfold hostOp
  split
  · exact exec_agree _ agree
  · exact .next agree

/-- With the same inputs a step keeps the agreement: the handshake is outside both channels, and the outputs are excepted. -/
theorem step_agree (s v : State) (c : Channel) : ResultsAgree c (step s) (step (s.graft c v)) := by
  have opened : AgreeOutside c s.openCycle (s.graft c v).openCycle := by cases c <;> rfl
  have presented : (s.graft c v).presented = s.presented := by cases c <;> rfl
  have performed : performs (s.graft c v) s.presented = performs s s.presented := by cases c <;> rfl
  unfold step clockCycle
  simp only [presented, performed]
  split
  · exact .next (by cases c <;> rfl)
  · exact (hostOp_agree _ _ _ opened).andThen fun _ _ agree => (everyEdge_agree agree).andThen fun _ _ agree =>
      hostOp_agree _ _ _ agree

/-- With a code the table of R98 has, both steps complete, and their states agree. -/
theorem steps_agree (s v : State) (c : Channel) (code : s.eng.toNat ≤ 5) :
    ∃ t u, step s = .next t ∧ step (s.graft c v) = .next u ∧ AgreeOutside c t u := by
  obtain ⟨t, next⟩ := step_completes (.inr code)
  obtain ⟨u, next'⟩ := step_completes (s := s.graft c v) (.inr (by cases c <;> exact code))
  have agree := step_agree s v c
  rw [next, next'] at agree
  cases agree with
  | next agree => exact ⟨t, u, next, next', agree⟩

/-- Settles O42: the second state is the first with other registers of channel 1. -/
theorem channelOneDoesNotTouchChannelZero : Obligations.ChannelOneDoesNotTouchChannelZero :=
  fun s acc inc freq duty act => steps_agree s
    { s with phacc1 := acc, phinc1 := inc, freq1 := freq, duty1 := duty, dutyact1 := act } .ch1

/-- Settles O43: the second state is the first with other registers of channel 0. -/
theorem channelZeroDoesNotTouchChannelOne : Obligations.ChannelZeroDoesNotTouchChannelOne :=
  fun s acc inc freq duty act => steps_agree s
    { s with phacc0 := acc, phinc0 := inc, freq0 := freq, duty0 := duty, dutyact0 := act } .ch0

end Sys2Proof.Machine
end

section
/-!
PROOFS. The arithmetic of the engine (41_dds_engine.md R151 to R163): its operations with their whole effect, the tuning word of a
frequency, and the period of the phase sequence under a fixed increment.
-/

namespace Sys2Proof.Machine

variable {s : State}

/-- The phase step as the spec writes it (R158). -/
theorem phaseStep_eq_ofNat (acc inc : Word) : phaseStep acc inc = BitVec.ofNat 32 ((acc.toNat + inc.toNat) % 2 ^ 32) :=
  BitVec.eq_of_toNat_eq (by simp [phaseStep])

/-- The sample of a phase step as the spec writes it (R159, R195). -/
theorem sampleOf_phaseStep (c : Config) (acc inc : Word) :
    sampleOf c (phaseStep acc inc) = c.wavetable.getD ((acc.toNat + inc.toNat) % 2 ^ 32 / 2 ^ 24) 0 := by
  rw [sampleOf, Config.sample, tableIndex_toNat, phaseStep, BitVec.toNat_add]

/-- A pending tick is dispatched with the engine idle (R151). -/
theorem dispatchTick_of_pending (idle : s.eng = Eng.idle) (pend : s.pend = true) : s.dispatchTick = s.enterTick :=
  if_pos (dispatches_iff.mpr ⟨idle, pend⟩)

/-- The tick counter counts modulo 2^16 (R156). -/
theorem half_succ_eq_ofNat (c : Half) : c + 1 = BitVec.ofNat 16 ((c.toNat + 1) % 2 ^ 16) :=
  BitVec.eq_of_toNat_eq (by simp)

/-- Settles O19: the updates as they are, with the sums and the table entry as the spec writes them. -/
theorem engineOperationsEffect : Obligations.EngineOperationsEffect := by
  intro s
  refine ⟨fun idle pend => ?dispatch, rfl, ?ch0, ?ch1, rfl, ?cnt⟩
  case dispatch =>
    rw [exec_eDispatch, dispatchTick_of_pending idle pend]
    rfl
  case ch0 => rw [← phaseStep_eq_ofNat, ← sampleOf_phaseStep, exec_eCh0, State.advanceChannel0]
  case ch1 => rw [← phaseStep_eq_ofNat, ← sampleOf_phaseStep, exec_eCh1, State.advanceChannel1]
  case cnt =>
    rw [← half_succ_eq_ofNat]
    rfl

/-- An increment computed without a wrap of the product is the product (R163, 44_host_ops.md R270). -/
theorem phaseIncrement_toNat_of_lt {freq stephz : Word} (noWrap : freq.toNat * stephz.toNat < 2 ^ 32) :
    (phaseIncrement freq stephz).toNat = freq.toNat * stephz.toNat :=
  BitVec.toNat_mul_of_lt noWrap

/-- The frequency comes back on division, with no remainder (R163). -/
theorem phaseIncrement_recovers {freq stephz : Word} (positive : stephz ≠ 0) (noWrap : freq.toNat * stephz.toNat < 2 ^ 32) :
    (phaseIncrement freq stephz).toNat / stephz.toNat = freq.toNat
      ∧ (phaseIncrement freq stephz).toNat % stephz.toNat = 0 := by
  have positive' : 0 < stephz.toNat := by
    rw [Nat.pos_iff_ne_zero]
    exact fun zero => positive (BitVec.eq_of_toNat_eq zero)
  rw [phaseIncrement_toNat_of_lt noWrap]
  exact ⟨Nat.mul_div_cancel _ positive', Nat.mul_mod_left _ _⟩

/-- `SETFREQ` is not refused, disarmed and configured (R270). -/
theorem unlessRefused_setfreq_of_configured (disarmed : s.ie = false) (valid : s.cfgValid = true) (done : State) :
    unlessRefused s.setfreqRefusal s done = .next done := by
  simp [unlessRefused_setfreqRefusal, disarmed, valid]

/-- Settles O56: both channels compute the same product, and keep `STEPHZ`. -/
theorem frequencyIsRecovered : Obligations.FrequencyIsRecovered := by
  intro s disarmed valid positive
  exact ⟨fun noWrap => ⟨_, unlessRefused_setfreq_of_configured disarmed valid _, phaseIncrement_recovers positive noWrap⟩,
    fun noWrap => ⟨_, unlessRefused_setfreq_of_configured disarmed valid _, phaseIncrement_recovers positive noWrap⟩⟩

variable {p q d v : Word} {r : Nat}

/-- Phase steps by one increment are one phase step by their sum (R160). -/
theorem iterate_phaseStep (q : Word) (n : Nat) :
    (fun a => phaseStep a q)^[n] = fun a => phaseStep a (BitVec.ofNat 32 (n * q.toNat)) := by
  induction n with
  | zero => funext a; simp [phaseStep]
  | succ n ih =>
    rw [Function.iterate_succ', ih]
    funext a
    simp [phaseStep, Nat.succ_mul, BitVec.ofNat_add, BitVec.add_assoc]

/-- So the accumulator advances by `n` increments. -/
theorem iterate_phaseStep_apply (p q : Word) (n : Nat) :
    (fun a => phaseStep a q)^[n] p = p + BitVec.ofNat 32 (n * q.toNat) :=
  congrFun (iterate_phaseStep q n) p

/-- `r` increments make a multiple of 2^32 exactly for the multiples `r` of the period (R162). -/
theorem period_dvd_iff (q r : Nat) : 2 ^ 32 / Nat.gcd (2 ^ 32) q ∣ r ↔ 2 ^ 32 ∣ r * q := by
  rw [← ZMod.addOrderOf_coe q (by norm_num), addOrderOf_dvd_iff_nsmul_eq_zero, nsmul_eq_mul, ← Nat.cast_mul,
    ZMod.natCast_eq_zero_iff]

/-- The accumulator is back after `r` phase steps exactly when the period divides `r`. -/
theorem iterate_phaseStep_eq_self_iff :
    (fun a => phaseStep a q)^[r] p = p ↔ 2 ^ 32 / Nat.gcd (2 ^ 32) q.toNat ∣ r := by
  rw [iterate_phaseStep_apply, period_dvd_iff, add_eq_left, ← BitVec.toNat_inj, BitVec.toNat_ofNat,
    Nat.dvd_iff_mod_eq_zero]
  rfl

/-- Every value congruent to the start modulo the gcd is visited (R162): the distance to it is a combination of 2^32 and the
increment. -/
theorem exists_iterate_phaseStep (same : v.toNat % Nat.gcd (2 ^ 32) q.toNat = p.toNat % Nat.gcd (2 ^ 32) q.toNat) :
    ∃ n : Nat, (fun a => phaseStep a q)^[n] p = v := by
  obtain ⟨c, distance⟩ := Nat.modEq_iff_dvd.mp same.symm
  rw [Nat.gcd_eq_gcd_ab] at distance
  set x := Nat.gcdA (2 ^ 32) q.toNat
  set y := Nat.gcdB (2 ^ 32) q.toNat
  obtain ⟨n, turns, steps⟩ : ∃ (n : ℕ) (turns : ℤ), y * c = 2 ^ 32 * turns + n :=
    ⟨(y * c % 2 ^ 32).toNat, y * c / 2 ^ 32, by
      rw [Int.toNat_of_nonneg (Int.emod_nonneg _ (by norm_num)), Int.mul_ediv_add_emod]⟩
  have arrives : p.toNat + n * q.toNat ≡ v.toNat [MOD 2 ^ 32] := by
    refine Nat.modEq_iff_dvd.mpr ⟨x * c + q.toNat * turns, ?_⟩
    push_cast at distance ⊢
    linear_combination distance + q.toNat * steps
  refine ⟨n, BitVec.eq_of_toNat_eq ?_⟩
  rw [iterate_phaseStep_apply, BitVec.toNat_add, BitVec.toNat_ofNat, Nat.add_mod_mod, arrives, Nat.mod_eq_of_lt v.isLt]

/-- An increment that never moves the table index is 0: any other one, a multiple of at most 2^31 modulo 2^32, leads to the value
half a circle away. -/
theorem increment_eq_zero_of_tableIndex_constant
    (constant : ∀ n, tableIndex ((fun a => phaseStep a d)^[n] p) = tableIndex p) : d = 0 := by
  by_contra nonzero
  have half : Nat.gcd (2 ^ 32) d.toNat ∣ 2 ^ 31 := by
    obtain ⟨j, j_le, gcd_eq⟩ := (Nat.dvd_prime_pow Nat.prime_two).mp (Nat.gcd_dvd_left (2 ^ 32) d.toNat)
    have d_pos : 0 < d.toNat := Nat.pos_iff_ne_zero.mpr fun zero => nonzero (BitVec.eq_of_toNat_eq zero)
    have gcd_lt : 2 ^ j < 2 ^ 32 := gcd_eq ▸ (Nat.le_of_dvd d_pos (Nat.gcd_dvd_right _ _)).trans_lt d.isLt
    rw [gcd_eq]
    exact pow_dvd_pow 2 (Nat.le_of_lt_succ ((Nat.pow_lt_pow_iff_right (by norm_num)).mp gcd_lt))
  have congruent : (p + BitVec.ofNat 32 (2 ^ 31)).toNat % Nat.gcd (2 ^ 32) d.toNat = p.toNat % Nat.gcd (2 ^ 32) d.toNat := by
    rw [BitVec.toNat_add, Nat.mod_mod_of_dvd _ (Nat.gcd_dvd_left _ _)]
    exact (Nat.modEq_zero_iff_dvd.mpr half).add_left p.toNat
  obtain ⟨n, opposite⟩ := exists_iterate_phaseStep congruent
  have same := congrArg BitVec.toNat (constant n)
  rw [opposite, tableIndex_toNat, tableIndex_toNat, BitVec.toNat_add, BitVec.toNat_ofNat] at same
  have bound := p.isLt
  omega

/-- The table index repeats by `r` only when the accumulator does. -/
theorem iterate_phaseStep_eq_self_of_tableIndex
    (periodic : ∀ n : Nat, tableIndex ((fun a => phaseStep a q)^[n + r] p) = tableIndex ((fun a => phaseStep a q)^[n] p)) :
    (fun a => phaseStep a q)^[r] p = p := by
  have constant (k : Nat) : tableIndex ((fun a => phaseStep a q)^[r * k] p) = tableIndex p := by
    induction k with
    | zero => rfl
    | succ k ih => rw [Nat.mul_succ, periodic, ih]
  simp only [Function.iterate_mul, iterate_phaseStep q r] at constant
  rw [iterate_phaseStep_apply, increment_eq_zero_of_tableIndex_constant constant, add_zero]

/-- Settles O57: both sequences repeat by `r` exactly when the accumulator is back after `r` steps. -/
theorem phaseSequenceHasItsPeriod : Obligations.PhaseSequenceHasItsPeriod := by
  intro p q
  have repeats {r : Nat} (back : (fun a => phaseStep a q)^[r] p = p) (n : Nat) :
      (fun a => phaseStep a q)^[n + r] p = (fun a => phaseStep a q)^[n] p := by
    rw [Function.iterate_add_apply, back]
  simp only [← iterate_phaseStep_eq_self_iff (p := p)]
  exact ⟨fun r => ⟨fun periodic => by simpa using periodic 0, repeats⟩, fun v => exists_iterate_phaseStep,
    fun r => ⟨iterate_phaseStep_eq_self_of_tableIndex, fun back n => congrArg tableIndex (repeats back n)⟩⟩

end Sys2Proof.Machine
end

section
/-!
PROOFS. The waveform table (42_wavetable.md R190 to R198): nothing writes it, the host reads it through the window of `TBLIDX` and
`TBLDATA`, and the shape of the default one. Of that shape the half-wave symmetry, the mirror symmetry, the trough and the rise are
checked entry by entry; the peak, the range and the fall follow from them.
-/

namespace Sys2Proof.Machine

variable {s t : State} {i : Instr}

/-- No operation has access to the configuration (R197). -/
theorem exec_cfg (h : exec i s = .next t) : t.cfg = s.cfg := by
  cases i with
  | rdStatus | rdCmd | rdTbdiv | rdClkrate | rdTgtrate | rdStephz | rdFreq0 | rdFreq1 | rdPhinc0 | rdPhinc1 | rdPhacc0
  | rdPhacc1 | rdTickcnt | rdTstart | rdTstop | rdDuty0 | rdDuty1 | rdTbcnt | rdTblidx | rdTbldata | rdRsvd =>
    cases h
    exact deliver_cfg ..
  | eDispatch | eT0 | eCh0 | eCh1 | eT1 | eCnt | tbCount | pwmStep =>
    cases h
    simp
  | _ => exact (writeEffect_of_exec (by simp [Instr.format]) h).cfg_eq

/-- Settles O36: by the operation, and by the phases of a step. -/
theorem nothingWritesTheTable : Obligations.NothingWritesTheTable :=
  ⟨fun _ _ _ => exec_cfg, fun _ _ => step_cfg⟩

/-- A performed write of `d` to `TBLIDX` while disarmed sets the index and leaves the core at rest, with the next inputs
presented (R196, 44_host_ops.md R260). -/
theorem step_of_write_tblidx {d : Byte} (write : s.performsWrite 0x30 d) (disarmed : s.ie = false) :
    ∃ t, step s = .next t ∧ t.tblidx = d ∧ t.input = s.input.tail ∧ t.eng = Eng.idle ∧ t.pend = false := by
  obtain ⟨performed, -, isWrite, addr_eq, data_eq⟩ := write
  obtain ⟨-, running, idle, calm⟩ := performs_iff.mp performed
  obtain ⟨m, edge⟩ := everyEdge_completes (s := s.openCycle) (by simp [idle])
  have stepped : step s = .next { m with tblidx := d } := by
    rw [step_of_write performed isWrite, edge, andThen_next, decodeHost_word, if_pos isWrite, addr_eq, data_eq]
    rfl
  obtain ⟨rest_eng, rest_pend⟩ := everyEdge_at_rest (s := s.openCycle) disarmed idle calm edge
  exact ⟨_, stepped, rfl, step_input running stepped, rest_eng, rest_pend⟩

/-- A performed read of `TBLDATA` shows the entry at the index and does not advance the index (R196, R250). -/
theorem step_of_read_tbldata (performed : performs s s.presented = true) (isRead : s.presented.hWrite = false)
    (addr_eq : s.presented.hAddr = 0x31) :
    ∃ t, step s = .next t ∧ t.out.hReady = true ∧ t.out.hRdata = s.cfg.sample s.tblidx ∧ t.tblidx = s.tblidx := by
  obtain ⟨-, running, idle, calm⟩ := performs_iff.mp performed
  obtain ⟨t, next⟩ := step_completes (s := s) (.inr (by simp [idle]))
  have edge := next
  rw [step_of_read running isRead] at edge
  obtain ⟨-, -, -, -, kept, -⟩ := everyEdge_keeps_staged edge
  refine ⟨t, next, ?_, ?_, kept⟩
  · rw [step_out next]
    exact hReady_iff.mpr ⟨running, idle, calm⟩
  · rw [step_out next, performed, isRead, addr_eq]
    rfl

/-- Settles O52: the write leaves the core ready for the read. -/
theorem tableWindow : Obligations.TableWindow := by
  intro s i x rest idle calm disarmed
  have write : { s with input := ⟨false, true, true, 0x30, i⟩ :: ⟨false, true, false, 0x31, x⟩ :: rest }.performsWrite
      0x30 i :=
    ⟨performs_iff.mpr ⟨rfl, rfl, idle, calm⟩, rfl, rfl, rfl, rfl⟩
  obtain ⟨u, first, index, input, idle_u, calm_u⟩ := step_of_write_tblidx write disarmed
  have presented : u.presented = ⟨false, true, false, 0x31, x⟩ := by simp [State.presented, input]
  obtain ⟨t, second, ready, data, kept⟩ := step_of_read_tbldata (s := u)
    (by simp [performs_iff, presented, idle_u, calm_u]) (by rw [presented]) (by rw [presented])
  refine ⟨t, ?_, ready, ?_, kept.trans index⟩
  · rw [runSteps_succ_of_step first, runSteps_succ_of_step second, runSteps]
  · rw [data, step_cfg first, index]
    rfl

end Sys2Proof.Machine

namespace Sys2Proof

/-- Half a wave apart, two entries lie equally far on both sides of 127 (R193 (c)). -/
theorem sample_add_half_wave :
    ∀ i : Byte, (Config.standard.sample i).toNat + (Config.standard.sample (i + 128)).toNat = 254 := by decide

/-- The table is its own mirror image about the peak at 64, and, the index being cyclic, about the trough at 192 (R193 (d)). -/
theorem sample_mirror : ∀ i : Byte, Config.standard.sample (128 - i) = Config.standard.sample i := by decide

/-- The trough (R193 (a)). -/
theorem sample_eq_zero_iff : ∀ i : Byte, Config.standard.sample i = 0 ↔ 189 ≤ i.toNat ∧ i.toNat ≤ 195 := by decide

/-- From the trough to the peak no entry falls below the one before it, and none exceeds it by more than 4 (R193 (e), (g)). -/
theorem sample_rises : ∀ i : Byte, 192 ≤ i.toNat ∨ i.toNat < 64 →
    (Config.standard.sample i).toNat ≤ (Config.standard.sample (i + 1)).toNat
      ∧ (Config.standard.sample (i + 1)).toNat ≤ (Config.standard.sample i).toNat + 4 := by decide

/-- The fall is the rise half a wave later, upside down. -/
theorem sample_falls (i : Byte) (h : 64 ≤ i.toNat ∧ i.toNat < 192) :
    (Config.standard.sample (i + 1)).toNat ≤ (Config.standard.sample i).toNat
      ∧ (Config.standard.sample i).toNat ≤ (Config.standard.sample (i + 1)).toNat + 4 := by
  have rise := sample_rises (i + 128) (by bv_omega)
  have here := sample_add_half_wave i
  have next := sample_add_half_wave (i + 1)
  rw [add_right_comm] at next
  omega

/-- The peak is the trough half a wave later. -/
theorem sample_eq_top_iff (i : Byte) : Config.standard.sample i = 254 ↔ 61 ≤ i.toNat ∧ i.toNat ≤ 67 := by
  have pair := sample_add_half_wave i
  calc Config.standard.sample i = 254
    _ ↔ Config.standard.sample (i + 128) = 0 := by bv_omega
    _ ↔ 189 ≤ (i + 128).toNat ∧ (i + 128).toNat ≤ 195 := sample_eq_zero_iff _
    _ ↔ 61 ≤ i.toNat ∧ i.toNat ≤ 67 := by bv_omega

/-- The mean is 127 (R193 (f)). -/
theorem standard_wavetable_sum : (Config.standard.wavetable.map (fun v => v.toNat)).sum = 32512 := by
  show ((sineQuarter0 ++ sineQuarter1 ++ sineQuarter2 ++ sineQuarter3).map (fun v => v.toNat)).sum = 32512
  simp only [List.map_append, List.sum_append]
  rfl

/-- Settles O58: the symmetries carry the trough to the peak and the rise to the fall. -/
theorem defaultTableShape : Obligations.DefaultTableShape := by
  refine ⟨fun i => ?_, ⟨rfl, rfl⟩, standard_wavetable_sum, ⟨rfl, rfl⟩⟩
  have pair := sample_add_half_wave i
  have trough_mirror : 128 ≤ i.toNat → BitVec.ofNat 8 (384 - i.toNat) = 128 - i := by bv_omega
  refine ⟨⟨sample_eq_zero_iff i, sample_eq_top_iff i, by omega⟩, pair, fun _ => sample_mirror i,
    fun second => by rw [trough_mirror second, sample_mirror], fun rising => (sample_rises i rising).1,
    fun falling => (sample_falls i falling).1, ?_⟩
  by_cases rising : 192 ≤ i.toNat ∨ i.toNat < 64
  · have := sample_rises i rising
    omega
  · have := sample_falls i (by omega)
    omega

end Sys2Proof
end

section
/-!
PROOFS. The PWM carrier (43_pwm.md R211 to R214): only `PWM.STEP` moves the count and the active duties, so within a carrier period
the count is the number of the cycle and the duties stand still.
-/

namespace Sys2Proof.Machine

variable {s t : State} {i : Instr} {n : Nat}

/-- The engine moves neither the carrier nor the active duties (10_state.md R52). -/
theorem engineOp_keeps_carrier (h : engineOp s = .next t) :
    t.pwmcnt = s.pwmcnt ∧ t.dutyact0 = s.dutyact0 ∧ t.dutyact1 = s.dutyact1 := by
  rcases engineOp_cases h with ⟨-, rfl⟩ | ⟨-, rfl⟩ | ⟨-, rfl⟩ | ⟨-, rfl⟩ | ⟨-, rfl⟩ | ⟨-, rfl⟩ <;> simp

/-- Neither does a write or command. -/
theorem WriteEffect.keeps_carrier (effect : WriteEffect i s t) :
    t.pwmcnt = s.pwmcnt ∧ t.dutyact0 = s.dutyact0 ∧ t.dutyact1 = s.dutyact1 := by
  cases effect <;> exact ⟨rfl, rfl, rfl⟩

/-- On the free-running edge the carrier steps from its own pre-edge values, and takes the pre-edge duties (R211). -/
theorem everyEdge_carrier (h : everyEdge s = .next t) :
    t.pwmcnt = s.pwmcnt + 1 ∧ t.dutyact0 = (if s.pwmcnt = 255 then s.duty0 else s.dutyact0)
      ∧ t.dutyact1 = (if s.pwmcnt = 255 then s.duty1 else s.dutyact1) := by
  obtain ⟨e, engine, rfl⟩ := everyEdge_eq_next h
  simpa using engineOp_keeps_carrier engine

/-- A step without reset moves the carrier and the active duties as `PWM.STEP` does, whatever the host writes (R211, R212). -/
theorem step_carrier (running : s.presented.rst = false) (h : step s = .next t) :
    t.pwmcnt = s.pwmcnt + 1 ∧ t.dutyact0 = (if s.pwmcnt = 255 then s.duty0 else s.dutyact0)
      ∧ t.dutyact1 = (if s.pwmcnt = 255 then s.duty1 else s.dutyact1) := by
  obtain ⟨b, m, edge, write⟩ := step_eq_edge_then_write running h
  have stepped := everyEdge_carrier (s := s.openCycle.deliver b) edge
  rcases write with rfl | ⟨-, -, effect⟩
  · exact stepped
  · obtain ⟨pwmcnt, dutyact0, dutyact1⟩ := effect.keeps_carrier
    rwa [pwmcnt, dutyact0, dutyact1]

/-- Settles O26: by the reset, and without one the step is that of `PWM.STEP`. -/
theorem carrierOnEveryEdge : Obligations.CarrierOnEveryEdge := by
  intro s t h
  refine ⟨fun reset => ?_, fun running => ?_⟩
  · cases (step_of_reset reset).symm.trans h
    simp
  · obtain ⟨pwmcnt, dutyact0, dutyact1⟩ := step_carrier running h
    exact ⟨pwmcnt ▸ BitVec.toNat_add _ _, dutyact0, dutyact1⟩

/-- Short of the wrap, `n` steps without reset count `n` carrier cycles and leave the active duties alone (R212). -/
theorem carrier_within_period (sound : s.Sound) (running : s.noResetFor n) (within : s.pwmcnt.toNat + n < 256) :
    ∃ t, runSteps n s = .next t ∧ t.Sound ∧ t.pwmcnt.toNat = s.pwmcnt.toNat + n
      ∧ t.dutyact0 = s.dutyact0 ∧ t.dutyact1 = s.dutyact1 := by
  induction n generalizing s with
  | zero => exact ⟨s, rfl, sound, rfl, rfl, rfl⟩
  | succ n ih =>
    obtain ⟨u, first⟩ := step_completes (.inr (eng_le_of_sound sound))
    obtain ⟨now, later⟩ := noResetFor_of_step running first
    obtain ⟨-, edge⟩ := carrierOnEveryEdge s u first
    obtain ⟨count, dutyact0, dutyact1⟩ := edge now
    have noWrap : s.pwmcnt ≠ 255 := by bv_omega
    rw [Nat.mod_eq_of_lt (by omega)] at count
    rw [if_neg noWrap] at dutyact0 dutyact1
    obtain ⟨t, rest, sound_t, count_t, dutyact0_t, dutyact1_t⟩ := ih (step_sound sound first) later (by omega)
    exact ⟨t, (runSteps_succ_of_step first n).trans rest, sound_t, by omega, dutyact0_t.trans dutyact0, dutyact1_t.trans dutyact1⟩

/-- Settles O51: cycle `j` of the period shows the comparators at a count of `j` and at the duties of its start (R213). -/
theorem carrierPeriodShowsTheDuty : Obligations.CarrierPeriodShowsTheDuty := by
  intro s j sound start running within
  obtain ⟨u, run, sound_u, count, dutyact0, dutyact1⟩ :=
    carrier_within_period sound (noResetFor_mono running within.le) (by simpa [start] using within)
  obtain ⟨t, last⟩ := step_completes (.inr (eng_le_of_sound sound_u))
  have shown : t.out.pwmOut = u.pwmOut := by rw [step_out last]
  have count_j : u.pwmcnt.toNat = j := by simpa [start] using count
  refine ⟨t, (runSteps_succ_of_runSteps run).trans last, ?_, ?_⟩
  · rw [shown, Bool.eq_iff_iff, pwmOut_channel0, decide_eq_true_iff, count_j, dutyact0]
  · rw [shown, Bool.eq_iff_iff, pwmOut_channel1, decide_eq_true_iff, count_j, dutyact1]

end Sys2Proof.Machine
end

section
/-!
PROOFS. The host operations (44_host_ops.md). The word of a rule is the encoding of its operation, so it selects it; a read delivers
its byte; a byte write replaces one byte of one 32-bit register, and no other address of the host space sees it; a refused
operation sets `REFUSED` and nothing else.
-/

namespace Sys2Proof

variable {i : Instr} {a : Addr} {w : TxWord}

/-- The word that encodes a well-formed operation selects it (30_encoding.md R93, R104). -/
theorem decodeHost_of_encode (word : encode i = .host w) (wellFormed : i.wellFormed = true) : decodeHost w = i := by
  have selected : i.format ≠ .edge := by simp [format_eq_edge_iff, word]
  have inverse := decode_encode wellFormed selected
  rw [word] at inverse
  exact Except.ok.inj inverse

/-- So does the word of a read with any other data bits (R93). -/
theorem decodeHost_of_encode_read (word : encode i = .host (.ofFields false a 0)) (wellFormed : i.wellFormed = true)
    (x : Byte) : decodeHost (.ofFields false a x) = i := by
  have canonical := decodeHost_of_encode word wellFormed
  rw [decodeHost_ofFields] at canonical ⊢
  exact canonical

/-- Settles O1: the words are encodings, but for the data of a read and for the two given as table words. -/
theorem specWordsDecode : Obligations.SpecWordsDecode :=
  ⟨decodeHost_of_encode_read (a := 0x00) rfl rfl 0xFF, decodeHost_of_encode rfl rfl, decodeHost_of_encode rfl rfl,
    decodeHost_of_encode rfl rfl, decodeHost_of_encode rfl rfl, decodeHost_of_encode rfl rfl, decodeHost_of_encode rfl rfl,
    decodeHost_of_encode rfl rfl, decodeHost_of_encode rfl rfl, rfl, rfl⟩

end Sys2Proof

namespace Sys2Proof.Machine

variable {s : State} {w : BitVec 4} {v : Word}

/-! Reads. -/

/-- Settles O7: each word encodes its read, and `State.deliver` is the whole effect. -/
theorem readsOfWideRegisters : Obligations.ReadsOfWideRegisters := by
  intro s x
  refine ⟨fun k => ⟨?_, ?_, ?_, ?_, ?_, ?_, ?_, ?_, ?_⟩, fun k => ⟨?_, ?_⟩⟩
  all_goals exact ⟨decodeHost_of_encode_read rfl rfl x, rfl⟩

/-- `STATUS` as a number: its four bits by weight (10_state.md R29). -/
theorem status_toNat (s : State) :
    s.status.toNat = s.ie.toNat + 2 * s.cfgValid.toNat + 4 * s.cfgErr.toNat + 8 * s.refused.toNat := by
  unfold State.status
  generalize s.ie = ie, s.cfgValid = cfgValid, s.cfgErr = cfgErr, s.refused = refused
  revert ie cfgValid cfgErr refused
  decide

/-- Settles O8: as for the wide registers; `STATUS` by its weights, and the reserved addresses by their set. -/
theorem readsOfByteRegisters : Obligations.ReadsOfByteRegisters := by
  intro s x
  refine ⟨⟨decodeHost_of_encode_read rfl rfl x, _, rfl, rfl, status_toNat s⟩, ?_, ?_, ?_, ?_, ?_, ?_, ?_, ?_,
    fun a reserved => ⟨decodeHost_of_encode_read rfl (by simpa [Instr.wellFormed, reservedAddr] using reserved) x, rfl⟩⟩
  all_goals exact ⟨decodeHost_of_encode_read rfl rfl x, rfl⟩

/-! Byte writes of the 32-bit registers. -/

/-- The state with the 32-bit register that fills word `w` of the host space replaced; `State.wordAt` reads what it writes. -/
def State.setWordAt (s : State) (w : BitVec 4) (v : Word) : State :=
  { s with
    clkrate := if w = 0x1 then v else s.clkrate
    tgtrate := if w = 0x2 then v else s.tgtrate
    stephz := if w = 0x3 then v else s.stephz
    freq0 := if w = 0x4 then v else s.freq0
    freq1 := if w = 0x5 then v else s.freq1
    phinc0 := if w = 0x6 then v else s.phinc0
    phinc1 := if w = 0x7 then v else s.phinc1
    phacc0 := if w = 0x8 then v else s.phacc0
    phacc1 := if w = 0x9 then v else s.phacc1 }

/-- The replacement shows in its own word and in no other (20_memory.md R66). -/
theorem wordAt_setWordAt (s : State) (w : BitVec 4) (v : Word) (u : BitVec 4) :
    (s.setWordAt w v).wordAt u = (s.wordAt u).map (if w = u then v else ·) := by
  rcases wordNumber_cases u with
    rfl | rfl | rfl | rfl | rfl | rfl | rfl | rfl | rfl | rfl | rfl | rfl | rfl | rfl | rfl | rfl <;> rfl

/-- An address whose word no 32-bit register fills does not see the replacement. -/
theorem hostRead_setWordAt_of_wordAt_none {u : BitVec 4} (h : s.wordAt u = none) (w : BitVec 4) (v : Word) (j : BitVec 2) :
    hostRead (s.setWordAt w v) (u ++ j) = hostRead s (u ++ j) := by
  rcases wordNumber_of_wordAt_none h with rfl | rfl | rfl | rfl | rfl | rfl | rfl
  all_goals rcases byteNumber_cases j with rfl | rfl | rfl | rfl <;> rfl

/-- The addresses outside the replaced word read as before. -/
theorem hostRead_setWordAt_of_ne {u : BitVec 4} (other : w ≠ u) (s : State) (v : Word) (j : BitVec 2) :
    hostRead (s.setWordAt w v) (u ++ j) = hostRead s (u ++ j) := by
  cases filled : s.wordAt u with
  | none => exact hostRead_setWordAt_of_wordAt_none filled w v j
  | some x =>
    have kept : (s.setWordAt w v).wordAt u = some x := by simp [wordAt_setWordAt, filled, other]
    rw [hostRead_of_wordAt kept, hostRead_of_wordAt filled]

/-- With one byte of the word replaced, every address but that byte's reads as before (R69, R77). -/
theorem hostRead_setWordAt_setByte {k : BitVec 2} {b : Addr} (filled : s.wordAt w = some v) (d : Byte)
    (other : b ≠ w ++ k) : hostRead (s.setWordAt w (setByte v k d)) b = hostRead s b := by
  obtain ⟨u, j, rfl⟩ := addr_eq_append b
  by_cases same : w = u
  · subst same
    have byte : j ≠ k := fun h => other (h ▸ rfl)
    have replaced : (s.setWordAt w (setByte v k d)).wordAt w = some (setByte v k d) := by
      simp [wordAt_setWordAt, filled]
    rw [hostRead_of_wordAt replaced, hostRead_of_wordAt filled, byteOfWord_setByte, if_neg byte]
  · exact hostRead_setWordAt_of_ne same s _ j

/-- Settles O10: each write replaces a byte of the register that fills its word. -/
theorem writesOfRatesAndFrequencies : Obligations.WritesOfRatesAndFrequencies := by
  intro k d s
  exact ⟨⟨decodeHost_of_encode rfl rfl, _, rfl, rfl, fun j => byteOfWord_setByte _ k j d,
      fun _ => hostRead_setWordAt_setByte (w := 0x1) rfl d⟩,
    ⟨decodeHost_of_encode rfl rfl, _, rfl, rfl, fun j => byteOfWord_setByte _ k j d,
      fun _ => hostRead_setWordAt_setByte (w := 0x2) rfl d⟩,
    ⟨decodeHost_of_encode rfl rfl, _, rfl, rfl, fun j => byteOfWord_setByte _ k j d,
      fun _ => hostRead_setWordAt_setByte (w := 0x4) rfl d⟩,
    ⟨decodeHost_of_encode rfl rfl, _, rfl, rfl, fun j => byteOfWord_setByte _ k j d,
      fun _ => hostRead_setWordAt_setByte (w := 0x5) rfl d⟩⟩

/-- What `LOCKED` guards is refused while armed (60_exceptions.md R301). -/
theorem unlessRefused_locked_of_armed (armed : s.ie = true) (done : State) :
    unlessRefused s.lockedRefusal s done = .next (s.raiseRefused .locked) := by
  rw [lockedRefusal_eq, if_pos armed, unlessRefused]

/-- What `LOCKED` guards is done while disarmed. -/
theorem unlessRefused_locked_of_disarmed (disarmed : s.ie = false) (done : State) :
    unlessRefused s.lockedRefusal s done = .next done := by
  rw [lockedRefusal_eq, if_neg (by simp [disarmed]), unlessRefused]

/-- Settles O11: armed both writes are refused; disarmed they are as those of O10. -/
theorem writesOfIncrements : Obligations.WritesOfIncrements := by
  intro k d s
  refine ⟨decodeHost_of_encode rfl rfl, decodeHost_of_encode rfl rfl, fun armed => ?_, fun disarmed => ⟨?_, ?_⟩⟩
  · exact ⟨unlessRefused_locked_of_armed armed _, unlessRefused_locked_of_armed armed _⟩
  · exact ⟨_, unlessRefused_locked_of_disarmed disarmed _, rfl, fun j => byteOfWord_setByte _ k j d,
      fun _ => hostRead_setWordAt_setByte (w := 0x6) rfl d⟩
  · exact ⟨_, unlessRefused_locked_of_disarmed disarmed _, rfl, fun j => byteOfWord_setByte _ k j d,
      fun _ => hostRead_setWordAt_setByte (w := 0x7) rfl d⟩

/-! The other writes, and the commands. -/

/-- Settles O12: the word encodes the write, whose meaning is the assignment. -/
theorem writeOfTableIndex : Obligations.WriteOfTableIndex :=
  fun d s => ⟨decodeHost_of_encode rfl rfl, exec_wrTblidx d s⟩

/-- Settles O13: an address of either set makes the refused operation well formed, so its word selects it. -/
theorem refusedWrites : Obligations.RefusedWrites := by
  intro a d s
  refine ⟨fun readOnly => ?_, fun reserved => ?_⟩
  · have inSet : readOnlyAddr a = true := by simpa [readOnlyAddr, or_assoc] using readOnly
    exact ⟨decodeHost_of_encode rfl inSet, exec_wrRo a d s⟩
  · have inSet : reservedAddr a = true := by simpa [reservedAddr] using reserved
    rw [decodeHost_of_encode_read (i := .rdRsvd a) rfl inSet d]
    exact ⟨decodeHost_of_encode rfl inSet, exec_wrRsvd a d s, exec_rdRsvd a s⟩

/-- The tuning word as the low 32 bits of the product (R270). -/
theorem phaseIncrement_eq_ofNat_mod (freq stephz : Word) :
    phaseIncrement freq stephz = BitVec.ofNat 32 (freq.toNat * stephz.toNat % 2 ^ 32) :=
  BitVec.eq_of_toNat_eq (by simp [phaseIncrement])

/-- `SETFREQ` is refused while armed, configured or not (R270). -/
theorem unlessRefused_setfreq_of_armed (armed : s.ie = true) (done : State) :
    unlessRefused s.setfreqRefusal s done = .next (s.raiseRefused .locked) := by
  rw [State.setfreqRefusal, if_pos armed, unlessRefused]

/-- `SETFREQ` is refused disarmed without a successful `CONFIGURE` (R270). -/
theorem unlessRefused_setfreq_of_unconfigured (disarmed : s.ie = false) (unconfigured : s.cfgValid = false) (done : State) :
    unlessRefused s.setfreqRefusal s done = .next (s.raiseRefused .notConfigured) := by
  simp [State.setfreqRefusal, unconfiguredRefusal_eq, disarmed, unconfigured, unlessRefused]

/-- Settles O17: the two refusals in their order, then the product. -/
theorem setFrequencyEffect : Obligations.SetFrequencyEffect := by
  refine ⟨decodeHost_of_encode rfl rfl, decodeHost_of_encode rfl rfl, fun s => ?_⟩
  rw [exec_cmdSetfreq0, exec_cmdSetfreq1, ← phaseIncrement_eq_ofNat_mod, ← phaseIncrement_eq_ofNat_mod]
  refine ⟨fun armed => ?_, fun disarmed unconfigured => ?_, fun disarmed configured => ?_⟩
  · exact ⟨unlessRefused_setfreq_of_armed armed _, unlessRefused_setfreq_of_armed armed _⟩
  · exact ⟨unlessRefused_setfreq_of_unconfigured disarmed unconfigured _,
      unlessRefused_setfreq_of_unconfigured disarmed unconfigured _⟩
  · exact ⟨unlessRefused_setfreq_of_configured disarmed configured _,
      unlessRefused_setfreq_of_configured disarmed configured _⟩

/-- Settles O18: both meanings are these assignments. -/
theorem clearTickAndNopEffect : Obligations.ClearTickAndNopEffect :=
  fun s => ⟨exec_cmdClrtick s, exec_cmdNop s⟩

end Sys2Proof.Machine
end

section
/-!
PROOFS. Exceptions (60_exceptions.md): no overrun (R309 to R311), as an armed overflow and a held core exclude each other; and the
closed list of refusals (R301), as every operation is one guarded by the reason of the list.
-/

namespace Sys2Proof.Machine

variable {s t : State} {i : Instr}

/-- A tick that is raised finds none pending and no handler run in progress (R311). -/
theorem free_of_overflows (sound : s.Sound) (onTime : s.OnTime) (overflow : s.overflows = true) :
    s.pend = false ∧ s.eng = Eng.idle := by
  have free : ¬ (s.eng ≠ Eng.idle ∨ s.pend = true) := fun held => by
    simp [overflows_eq_false_of_held sound onTime held] at overflow
  obtain ⟨idle, calm⟩ := not_or.mp free
  exact ⟨by simpa using calm, not_not.mp idle⟩

/-- An overrun is an armed overflow that finds a tick pending or a run in progress (R309, R310). -/
theorem overrun_iff : s.overrun = true ↔ s.overflows = true ∧ s.ie = true ∧ (s.pend = true ∨ s.eng ≠ Eng.idle) := by
  simp [State.overrun, and_assoc]

/-- A sound state on time is not at an overrun. -/
theorem overrun_eq_false (sound : s.Sound) (onTime : s.OnTime) : s.overrun = false := by
  by_contra overrun
  obtain ⟨overflow, -, held⟩ := overrun_iff.mp (by simpa using overrun)
  obtain ⟨calm, idle⟩ := free_of_overflows sound onTime overflow
  simp [calm, idle] at held

/-- Settles O35: an overflow comes only with the core free, and every reachable state is sound and on time. -/
theorem noOverrun : Obligations.NoOverrun := by
  refine ⟨fun s sound onTime overflow _ => free_of_overflows sound onTime overflow, fun c input out n t legal run => ?_⟩
  obtain ⟨sound, onTime⟩ := sound_onTime_of_runSteps (resetWith_sound legal input out) (resetWith_onTime c input out) run
  exact overrun_eq_false sound onTime

/-- Every operation is refused for the reason the closed list gives, if any, and otherwise done with `REFUSED` as before (R301). -/
theorem exec_eq_unlessRefused (i : Instr) (s : State) :
    ∃ done, exec i s = unlessRefused (refusalOf i s) s done ∧ done.refused = s.refused := by
  cases i with
  | wrRo | wrRsvd | cmdRsvd => exact ⟨s, rfl, rfl⟩
  | cmdConfigure =>
    refine ⟨_, rfl, ?_⟩
    split <;> rfl
  | eDispatch => exact ⟨_, rfl, dispatchTick_refused s⟩
  | tbCount => exact ⟨_, rfl, timebaseCount_refused s⟩
  | pwmStep => exact ⟨_, rfl, carrierStep_refused s⟩
  | _ => exact ⟨_, rfl, rfl⟩

/-- The closed list names no read (20_memory.md R65, 60_exceptions.md R301). -/
theorem refusalOf_rd (format : i.format = .rd) (s : State) : refusalOf i s = none := by
  cases i with
  | wrPhinc0 | wrPhinc1 | wrRo | wrRsvd | cmdConfigure | cmdEnable | cmdSetfreq0 | cmdSetfreq1 | cmdRsvd => cases format
  | _ => rfl

/-- A write or command never clears `REFUSED`. -/
theorem WriteEffect.refused_stays (effect : WriteEffect i s t) (flag : s.refused = true) : t.refused = true := by
  cases effect with
  | refused why => rfl
  | _ => exact flag

/-- `REFUSED` stays 1 over every step without reset: the edge does not write it, and a write or command does not clear it. -/
theorem step_refused_stays (running : s.presented.rst = false) (h : step s = .next t) (flag : s.refused = true) :
    t.refused = true := by
  obtain ⟨b, m, edge, rest⟩ := step_eq_edge_then_write running h
  obtain ⟨-, -, -, -, -, -, -, refused, -⟩ := everyEdge_keeps_staged edge
  have flag_m : m.refused = true := refused.trans flag
  rcases rest with rfl | ⟨-, -, effect⟩
  · exact flag_m
  · exact effect.refused_stays flag_m

/-- Settles O37: the reason of the list guards each operation, and no part of a step clears the flag. -/
theorem refusalsAreTheClosedList : Obligations.RefusalsAreTheClosedList := by
  refine ⟨fun i s r reason => ?_, fun i s passed => ?_, fun i s format => refusalOf_rd format s,
    fun s t => step_refused_stays⟩
  · obtain ⟨done, meaning, -⟩ := exec_eq_unlessRefused i s
    rw [meaning, reason]
    rfl
  · obtain ⟨done, meaning, kept⟩ := exec_eq_unlessRefused i s
    exact ⟨done, by rw [meaning, passed, unlessRefused], kept⟩

end Sys2Proof.Machine
end

section
/-!
PROOFS. The whole edge against R351 (70_reset_and_hazards.md): the operations of the step, run one after the other, give what the
simultaneous assignments give, because no operation reads a register that one before it has written; and the edge with reset (R350).
-/

namespace Sys2Proof.Machine

variable {s t : State}

/-- Settles O24: the registers of `step_of_reset` are at their reset values, and `h_ready` is 0 while `rst` is 1. -/
theorem resetEdge : Obligations.ResetEdge := by
  intro s reset
  refine ⟨_, step_of_reset reset, ?_⟩
  have notReady : hReady s s.presented = false := by simp [hReady, reset]
  simp [State.openCycle, notReady]

/-! The assignments that the two orders of the edge exchange. -/

/-- The state with the count given. -/
def State.withCount (s : State) (pre : BitVec 10) (tbcnt : Byte) : State := { s with pre, tbcnt }

/-- The state with the pending latch given. -/
def State.withPend (s : State) (pend : Bool) : State := { s with pend }

/-- The state with the model's own fields of the port given: the inputs to come and the outputs shown (log entries 2, 3). -/
def State.withPort (s : State) (input : List PortIn) (out : PortOut) : State := { s with input, out }

/-- The latch given as it stands is no change. -/
theorem withPend_of_pend_eq {pend : Bool} (h : s.pend = pend) : s.withPend pend = s := by
  rw [← h]
  rfl

/-- `TB.COUNT` gives `PRE` and `TBCNT` and nothing else (40_timebase.md R121). -/
theorem timebaseCount_eq_withCount (s : State) : s.timebaseCount = s.withCount s.timebaseCount.pre s.timebaseCount.tbcnt :=
  timebaseCount_eq s

/-- The latch of R122 gives `PEND` and nothing else. -/
theorem latchTick_eq_withPend (s : State) (ovf : Bool) : s.latchTick ovf = s.withPend (s.pend || (ovf && s.ie)) := rfl

/-! Steps 1 to 3 of R351 as the operations of the model. -/

/-- `PWM.STEP` is step 1 of R351. -/
theorem carrierStep_eq_edgePwm (s : State) : s.carrierStep = edgePwm s s := by
  have wrap_iff : s.pwmcnt.toNat = 255 ↔ s.pwmcnt = 255 := (BitVec.toNat_eq (y := 255)).symm
  simp only [State.carrierStep, edgePwm, byte_succ_eq_ofNat, wrap_iff]

/-- `TB.COUNT` and `ovf` are step 2 of R351, which assigns to `PRE` and `TBCNT` only. -/
theorem edgeTimebase_eq {n : State} (s : State) (uncounted : n.tbcnt = s.tbcnt) :
    edgeTimebase s n = (n.withCount s.timebaseCount.pre s.timebaseCount.tbcnt, s.overflows) := by
  have wrap_iff : (s.pre.toNat : Int) = (s.tbdiv.toNat : Int) - 1 ↔ s.pre.toNat + 1 = s.tbdiv.toNat := by omega
  have last_iff : s.tbcnt.toNat = 255 ↔ s.tbcnt = 255 := (BitVec.toNat_eq (y := 255)).symm
  simp only [edgeTimebase, State.withCount, State.overflows, State.prescalerWraps, wrap_iff, last_iff]
  by_cases wrap : s.pre.toNat + 1 = s.tbdiv.toNat
  · simp [timebaseCount_of_wrap wrap, wrap, ← byte_succ_eq_ofNat]
  · simp [timebaseCount_of_no_wrap wrap, wrap, uncounted, BitVec.ofNat_add]

/-- The engine operation is step 3 of R351, with the clearing of `PEND` that step 4 has for a dispatch. -/
theorem engineOp_eq_edgeEngine (code : s.eng.toNat ≤ 5) :
    engineOp s = .next ((edgeEngine s s s.dispatches).withPend (s.pend && !s.dispatches)) := by
  obtain ⟨dispatch, -, ch0, ch1, -, cnt⟩ := engineOperationsEffect s
  unfold engineOp edgeEngine
  by_cases idle : s.eng = Eng.idle
  · cases pend : s.pend with
    | true =>
      have starts : s.dispatches = true := dispatches_iff.mpr ⟨idle, pend⟩
      rw [starts, idle]
      exact dispatch idle pend
    | false =>
      have rests : s.dispatches = false := by simp [State.dispatches, pend]
      rw [rests, idle]
      simp [decodeEng, State.dispatchTick, rests, withPend_of_pend_eq pend]
  · have busy : s.dispatches = false := by simpa [State.dispatches] using fun code => absurd code idle
    rw [busy, Bool.not_false, Bool.and_true]
    rcases engCode_cases s.eng with e | e | e | e | e | e | e | e <;> rw [e] at code ⊢
    · exact absurd e idle
    · rfl
    · exact ch0
    · exact ch1
    · rfl
    · exact cnt
    · simp at code
    · simp at code

/-- Step 3 of R351 reads no register that `PWM.STEP` writes. -/
theorem edgeEngine_of_carrierStep (s n : State) (dispatch : Bool) :
    edgeEngine s.carrierStep n dispatch = edgeEngine s n dispatch := by
  unfold State.carrierStep
  split <;> rfl

/-- Step 3 of R351 assigns to no register that step 2 does. -/
theorem edgeEngine_withCount (s n : State) (pre : BitVec 10) (tbcnt : Byte) (dispatch : Bool) :
    edgeEngine s (n.withCount pre tbcnt) dispatch = (edgeEngine s n dispatch).withCount pre tbcnt := by
  unfold edgeEngine
  split
  · cases dispatch <;> rfl
  all_goals rfl

/-- The registers after steps 1 to 4 of R351. -/
def State.afterEdge (s : State) : State :=
  let (counted, ovf) := edgeTimebase s (edgePwm s s)
  (edgeEngine s counted s.dispatches).withPend ((s.pend && !s.dispatches) || (ovf && s.ie))

/-- Steps 1 to 4 of R351 in the order of the model's operations. -/
theorem afterEdge_eq (s : State) :
    s.afterEdge = ((edgeEngine s s.carrierStep s.dispatches).withCount s.timebaseCount.pre s.timebaseCount.tbcnt).withPend
      ((s.pend && !s.dispatches) || (s.overflows && s.ie)) := by
  rw [State.afterEdge, ← carrierStep_eq_edgePwm, edgeTimebase_eq s (carrierStep_tbcnt s)]
  simp only [edgeEngine_withCount]

/-- The free-running edge is steps 1 to 4 of R351: what the engine leaves is counted and latched as from the pre-edge state. -/
theorem everyEdge_eq_afterEdge (code : s.eng.toNat ≤ 5) : everyEdge s = .next s.afterEdge := by
  have dispatches : s.carrierStep.dispatches = s.dispatches := by simp [State.dispatches]
  have engine := engineOp_eq_edgeEngine (s := s.carrierStep) (by simpa using code)
  rw [dispatches, edgeEngine_of_carrierStep, carrierStep_pend] at engine
  have edge := everyEdge_of_engineOp engine
  obtain ⟨-, pre, tbcnt, -⟩ := everyEdge_timebase edge
  obtain ⟨-, -, -, -, ie, -⟩ := engineOp_keeps engine
  rw [latchTick_pre] at pre
  rw [latchTick_tbcnt] at tbcnt
  rw [carrierStep_ie] at ie
  rw [edge, latchTick_eq_withPend, timebaseCount_pend, timebaseCount_ie, ie, timebaseCount_eq_withCount, pre, tbcnt, afterEdge_eq]
  rfl

/-! The port takes no part in the transition of the registers. -/

theorem carrierStep_withPort (s : State) (input : List PortIn) (out : PortOut) :
    (s.withPort input out).carrierStep = s.carrierStep.withPort input out := by
  simp only [State.carrierStep, apply_ite (State.withPort · input out)]
  rfl

theorem timebaseCount_withPort (s : State) (input : List PortIn) (out : PortOut) :
    (s.withPort input out).timebaseCount = s.timebaseCount.withPort input out := by
  simp only [State.timebaseCount, apply_ite (State.withPort · input out)]
  rfl

theorem edgeEngine_withPort (s n : State) (dispatch : Bool) (input : List PortIn) (out : PortOut) :
    edgeEngine (s.withPort input out) (n.withPort input out) dispatch = (edgeEngine s n dispatch).withPort input out := by
  show edgeEngine s (n.withPort input out) dispatch = _
  unfold edgeEngine
  split
  · cases dispatch <;> rfl
  all_goals rfl

theorem afterEdge_withPort (s : State) (input : List PortIn) (out : PortOut) :
    (s.withPort input out).afterEdge = s.afterEdge.withPort input out := by
  rw [afterEdge_eq, afterEdge_eq, carrierStep_withPort, edgeEngine_withPort, timebaseCount_withPort]
  rfl

theorem hostWrite_withPort (s n : State) (a : Addr) (d : Byte) (input : List PortIn) (out : PortOut) :
    hostWrite s a d (n.withPort input out) = (hostWrite s a d n).withPort input out := by
  simp only [hostWrite, performCommand, apply_ite (State.withPort · input out)]
  rfl

/-- `HostWrite` has the operands of the pre-edge state also after the edge, which writes none of them (10_state.md R52). -/
theorem hostWrite_of_everyEdge (h : everyEdge s = .next t) (a : Addr) (d : Byte) (n : State) :
    hostWrite t a d n = hostWrite s a d n := by
  obtain ⟨phinc0, phinc1, -, stephz, ie, cfg⟩ := everyEdge_keeps h
  obtain ⟨freq0, freq1, clkrate, tgtrate, -, cfgValid, -⟩ := everyEdge_keeps_staged h
  simp only [hostWrite, performCommand, phinc0, phinc1, stephz, ie, cfg, freq0, freq1, clkrate, tgtrate, cfgValid]

/-- The outputs of R351 are those of R106. -/
theorem outputs_eq (s : State) (p : PortIn) :
    outputs s p = ⟨hReady s p, if performs s p && !p.hWrite then hostRead s p.hAddr else 0x00, s.pwmOut⟩ := by
  have high (count duty : Byte) : (if count < duty then 1#1 else 0#1) = BitVec.ofBool (pwmHigh count duty) := by
    by_cases below : count < duty <;> simp [pwmHigh, ← BitVec.lt_def, below]
  have ready : (!p.rst && decide (s.eng = Eng.idle) && !s.pend) = hReady s p := Bool.and_assoc ..
  rw [outputs, ready, high, high, performs, Bool.and_right_comm]
  rfl

/-- With reset the transition of R351 gives the reset values (R350). -/
theorem transition_of_reset {p : PortIn} (reset : p.rst = true) :
    transition s p = State.resetWith s.cfg s.input s.out := by
  simp [transition, reset]

/-- Without reset the transition of R351 is steps 1 to 4 and then a performed write. -/
theorem transition_of_running {p : PortIn} (running : p.rst = false) :
    transition s p = if performs s p && p.hWrite then hostWrite s p.hAddr p.hWdata s.afterEdge else s.afterEdge := by
  have performed : (p.hValid && decide (s.eng = Eng.idle) && !s.pend && p.hWrite) = (performs s p && p.hWrite) := by
    simp [performs, hReady, State.hostMayAct, running, Bool.and_assoc]
  rw [transition, if_neg (by simp [running]), ← performed]
  rfl

/-- The cycle of R351 is the transition of the registers at the port after the cycle. -/
theorem referenceCycle_eq (s : State) :
    referenceCycle s = (transition s s.presented).withPort s.input.tail (outputs s s.presented) := rfl

/-- The opened cycle shows the outputs of R106 without a read, and has taken its input. -/
theorem openCycle_eq_withPort (s : State) :
    s.openCycle = s.withPort s.input.tail ⟨hReady s s.presented, 0x00, s.pwmOut⟩ := rfl

/-- A read shows its byte at the port. -/
theorem deliver_withPort (s : State) (input : List PortIn) (out : PortOut) (b : Byte) :
    (s.withPort input out).deliver b = s.withPort input { out with hRdata := b } := rfl

/-- Settles O22: reset by R350; a cycle without a performed write is steps 1 to 4, and a performed write reads its operands from
the pre-edge state, as the edge leaves them alone. -/
theorem stepIsTheTransitionFunction : Obligations.StepIsTheTransitionFunction := by
  intro s h
  rw [referenceCycle_eq, outputs_eq]
  cases reset : s.presented.rst with
  | true =>
    have notPerformed : performs s s.presented = false := by simp [performs, hReady, reset]
    rw [step_of_reset reset, transition_of_reset reset, notPerformed]
    rfl
  | false =>
    have code : s.eng.toNat ≤ 5 := h.resolve_right (by simp [reset])
    have edge (out : PortOut) := everyEdge_eq_afterEdge (s := s.withPort s.input.tail out) code
    simp only [afterEdge_withPort] at edge
    rw [transition_of_running reset]
    cases isWrite : s.presented.hWrite with
    | false =>
      rw [step_of_read reset isWrite, openCycle_eq_withPort, deliver_withPort, edge, Bool.and_false, Bool.not_false,
        Bool.and_true]
      rfl
    | true =>
      cases performed : performs s s.presented with
      | false =>
        rw [step_of_not_performed reset performed, openCycle_eq_withPort, edge]
        rfl
      | true =>
        rw [step_of_write performed isWrite, openCycle_eq_withPort, edge, andThen_next, decodeHost_word, if_pos isWrite,
          exec_decodeWr, hostWrite_of_everyEdge (edge _), hostWrite_withPort]
        rfl

end Sys2Proof.Machine
end

section
/-!
PROOFS. The first tick after `ENABLE` (70_reset_and_hazards.md R362): the command arms the core and leaves it at rest one position
further, and an armed core at rest stays so up to the overflow that ends the period.
-/

namespace Sys2Proof.Machine

variable {s : State} {n : Nat}

/-- Short of the end of the period an armed core at rest, left alone, raises no tick and stays armed. -/
theorem calm_within_period (sound : s.Sound) (idle : s.eng = Eng.idle) (calm : s.pend = false) (armed : s.ie = true)
    (quiet : s.quietFor n) (within : s.position + n < s.tickPeriod) :
    ∃ t, runSteps n s = .next t ∧ t.ie = true ∧ t.pend = false := by
  induction n generalizing s with
  | zero => exact ⟨s, rfl, armed, calm⟩
  | succ n ih =>
    obtain ⟨running, isRead⟩ := quietFor_presented quiet
    obtain ⟨u, first⟩ := step_completes (.inr (eng_le_of_sound sound))
    obtain ⟨idle_u, pend_u, position, tone⟩ := step_between_ticks sound idle calm armed running isRead first
    have calm_u : u.pend = false := by
      rw [pend_u, ← Bool.not_eq_true, overflows_iff_position sound]
      omega
    have quiet_u : u.quietFor n := quietFor_of_runSteps (m := 1) (Nat.add_comm n 1 ▸ quiet) (runSteps_succ_of_step first 0)
    rw [Nat.mod_eq_of_lt (by omega)] at position
    rw [runSteps_succ_of_step first]
    exact ih (step_sound sound first) idle_u calm_u (tone.ie.trans armed) quiet_u (by rw [tickPeriod_congr tone.tbdiv]; omega)

/-- A performed `ENABLE` in a configured, disarmed core arms it and leaves it at rest, one position further in the same period. -/
theorem step_of_enable (sound : s.Sound) (enable : s.performsWrite 0x01 0x02) (disarmed : s.ie = false)
    (valid : s.cfgValid = true) :
    ∃ u, step s = .next u ∧ u.eng = Eng.idle ∧ u.pend = false ∧ u.ie = true ∧ u.tickPeriod = s.tickPeriod
      ∧ u.position = (s.position + 1) % s.tickPeriod := by
  have ⟨performed, presents⟩ := enable
  obtain ⟨-, running, idle, calm⟩ := performs_iff.mp performed
  obtain ⟨m, edge⟩ := everyEdge_completes (s := s.openCycle) (eng_le_of_sound sound)
  obtain ⟨idle_m, calm_m⟩ := everyEdge_at_rest (s := s.openCycle) disarmed idle calm edge
  obtain ⟨-, -, -, -, -, valid_m, -⟩ := everyEdge_keeps_staged edge
  obtain ⟨-, armed, -⟩ := enableAndDisableEffect m
  have stepped : step s = .next { m with ie := true } := by
    rw [step_of_command enable, edge, andThen_next]
    exact armed (valid_m.trans valid)
  have notConfigure : ¬ s.reconfigures := by
    rintro ⟨⟨-, -, -, -, configure⟩, -⟩
    obtain ⟨-, -, -, data⟩ := presents
    simp [data] at configure
  obtain ⟨tbdiv, position⟩ := positionAdvances s _ sound running notConfigure stepped
  exact ⟨_, stepped, idle_m, calm_m, rfl, tickPeriod_congr tbdiv, position⟩

/-- Settles O49: after `ENABLE` exactly `d` positions are left of the period in which the core then stands. -/
theorem firstTickAfterEnable : Obligations.FirstTickAfterEnable := by
  intro s d sound idle calm disarmed valid running presents distance quiet
  have ⟨presented, _⟩ := presents
  have enable : s.performsWrite 0x01 0x02 := ⟨performs_iff.mpr ⟨presented, running, idle, calm⟩, presents⟩
  obtain ⟨u, first, idle_u, calm_u, armed_u, period, position⟩ := step_of_enable sound enable disarmed valid
  have sound_u := step_sound sound first
  have quiet_u : u.quietFor d := by
    rw [State.quietFor, step_input running first]
    exact quiet
  have left : u.position + d = u.tickPeriod := by
    have within := position_lt_tickPeriod sound
    rw [period, position, distance]
    split
    next last => rw [last, Nat.sub_add_cancel (by omega), Nat.mod_self, Nat.zero_add]
    next notLast =>
      rw [Nat.mod_eq_of_lt (by omega)]
      omega
  refine ⟨fun m before => ?_, ?_⟩
  · rw [runSteps_succ_of_step first]
    have quiet_m : u.quietFor m := fun p hp => quiet_u p (List.take_subset_take_left _ before.le hp)
    exact calm_within_period sound_u idle_u calm_u armed_u quiet_m (by omega)
  · rw [runSteps_succ_of_step first]
    obtain ⟨t, run, pend, -⟩ := pending_at_end_of_period sound_u idle_u calm_u armed_u quiet_u left
    exact ⟨t, run, pend⟩

end Sys2Proof.Machine
end
